-- ==== Sys2Proof/Word.lean ====
section
/-! DEFINITION. The machine's two word types (00_scope.md R7, R10): `u8` and `u16`.
Both are bit vectors, so their arithmetic wraps modulo 256 and modulo 65536 as R10 says. -/

namespace Sys2Proof

/-- `u8`, an 8-bit byte: the addressable unit and the width of a general register (R7, R10). -/
abbrev Byte := BitVec 8

/-- `u16`, a 16-bit word: the width of PC, SP, a register pair and an address (R7, R10). -/
abbrev Word := BitVec 16

end Sys2Proof
end

