-- ==== Sys2Proof/WellFormed.lean ====
section
/-! DEFINITION. Which terms of `Instr` stand for an instruction that bytes can spell.
Every operand of a constructor is exactly as wide as its immediate (30_encoding.md R120, R124), so only two
constructors have ill-formed terms: `illegal` on an assigned opcode, and `prefix_CB`. -/

namespace Sys2Proof

/-- The eleven unassigned primary opcodes (30_encoding.md R137). -/
def unassignedOpcodes : List Byte :=
  [0xD3, 0xDB, 0xDD, 0xE3, 0xE4, 0xEB, 0xEC, 0xED, 0xF4, 0xFC, 0xFD]

/-- `illegal op` is well-formed exactly when `op` is unassigned (R137), and `prefix_CB` never is: its
bytes are those of a CB-table instruction (45_system.md R415).
Every other constructor's operands are free (R120, R124). -/
def Instr.wellFormed : Instr → Bool
  | .illegal op => unassignedOpcodes.contains op
  | .prefix_CB _ => false
  | _ => true

end Sys2Proof
end

