-- ==== Sys2Proof/Decode.lean ====
section
/-! DEFINITION. The decoder and the encoder (30_encoding.md).
The decoder is written from the FIELD description (R121, R122, R126 to R134: quadrant x, fields y, z, p, q);
the encoder and the rule numbers are written from the GRIDS (R135, R136) as spec/opcode_table.json lists
them row by row. The spec says the two are the same map; that decode and encode agree is therefore a check.
Both are total and structurally recursive, so the kernel evaluates them. -/

namespace Sys2Proof

/-! ## Bytes and words -/

/-- `(hi << 8) | lo` (00_scope.md R11). -/
def mkWord (hi lo : Byte) : Word := (hi.setWidth 16 <<< 8) ||| lo.setWidth 16

/-- `v[15:8]` (00_scope.md R11). -/
def hi8 (v : Word) : Byte := v.extractLsb' 8 8

/-- `v[7:0]` (00_scope.md R11). -/
def lo8 (v : Word) : Byte := v.extractLsb' 0 8

/-- `sext_16(v)`: `v` when `v[7] = 0` and `v + 0xFF00` when `v[7] = 1` (00_scope.md R12). -/
def sext16 (v : Byte) : Word := if v.getLsbD 7 then v.setWidth 16 + 0xFF00 else v.setWidth 16

/-- `zext_16(v)` (00_scope.md R12). -/
def zext16 (v : Byte) : Word := v.setWidth 16

/-! ## The fields of an opcode byte (R121) -/

/-- `x = op[7:6]`, the quadrant. -/
def xField (op : Byte) : Fin 4 := Fin.ofNat 4 (op.toNat / 64)

/-- `y = op[5:3]`. -/
def yField (op : Byte) : Fin 8 := Fin.ofNat 8 (op.toNat / 8)

/-- `z = op[2:0]`. -/
def zField (op : Byte) : Fin 8 := Fin.ofNat 8 op.toNat

/-- `p = op[5:4]`. -/
def pField (op : Byte) : Fin 4 := Fin.ofNat 4 (op.toNat / 16)

/-- `q = op[3]`. -/
def qField (op : Byte) : Bool := op.getLsbD 3

/-- `cc = y[1:0]` (R128). -/
def ccField (op : Byte) : Fin 4 := Fin.ofNat 4 (op.toNat / 8)

/-! ## What the operand fields name (R126 to R130) -/

/-- The 3-bit register field `r`; 6 is the byte at HL (R126). -/
def operandOf : Fin 8 → Operand8
  | 0 => .reg .B
  | 1 => .reg .C
  | 2 => .reg .D
  | 3 => .reg .E
  | 4 => .reg .H
  | 5 => .reg .L
  | 6 => .mHL
  | 7 => .reg .A

/-- `RP[p]` (R127). -/
def pairOf : Fin 4 → Pair
  | 0 => .BC
  | 1 => .DE
  | 2 => .HL
  | 3 => .SP

/-- `RP2[p]` (R127). -/
def stackPairOf : Fin 4 → StackPair
  | 0 => .BC
  | 1 => .DE
  | 2 => .HL
  | 3 => .AF

/-- The pointer of the x = 0, z = 2 rows, by p (R131). -/
def pointerOf : Fin 4 → Pointer
  | 0 => .BC
  | 1 => .DE
  | 2 => .HLI
  | 3 => .HLD

/-- The condition field `cc` (R128). -/
def condOf : Fin 4 → Cond
  | 0 => .NZ
  | 1 => .Z
  | 2 => .NC
  | 3 => .C

/-- The ALU operation field (R129). -/
def aluOf : Fin 8 → AluOp
  | 0 => .add
  | 1 => .adc
  | 2 => .sub
  | 3 => .sbc
  | 4 => .and
  | 5 => .xor
  | 6 => .or
  | 7 => .cp

/-- The operation field of the CB rotate and shift group (R130). -/
def rotOf : Fin 8 → RotOp
  | 0 => .rlc
  | 1 => .rrc
  | 2 => .rl
  | 3 => .rr
  | 4 => .sla
  | 5 => .sra
  | 6 => .swap
  | 7 => .srl

/-! ## The codes of the operands (R126 to R130), the other way round -/

/-- The code of an `r` operand (R126). -/
def operandCode : Operand8 → Byte
  | .reg .B => 0
  | .reg .C => 1
  | .reg .D => 2
  | .reg .E => 3
  | .reg .H => 4
  | .reg .L => 5
  | .mHL => 6
  | .reg .A => 7

/-- The code of `RP[p]` (R127). -/
def pairCode : Pair → Byte
  | .BC => 0
  | .DE => 1
  | .HL => 2
  | .SP => 3

/-- The code of `RP2[p]` (R127). -/
def stackPairCode : StackPair → Byte
  | .BC => 0
  | .DE => 1
  | .HL => 2
  | .AF => 3

/-- The code of a condition (R128). -/
def condCode : Cond → Byte
  | .NZ => 0
  | .Z => 1
  | .NC => 2
  | .C => 3

/-- The code of an ALU operation (R129). -/
def aluCode : AluOp → Byte
  | .add => 0
  | .adc => 1
  | .sub => 2
  | .sbc => 3
  | .and => 4
  | .xor => 5
  | .or => 6
  | .cp => 7

/-- The code of a CB rotate or shift (R130). -/
def rotCode : RotOp → Byte
  | .rlc => 0
  | .rrc => 1
  | .rl => 2
  | .rr => 3
  | .sla => 4
  | .sra => 5
  | .swap => 6
  | .srl => 7

/-! ## The rows of one shape

Each function below gives the table's row for given operands, so that a family of rows can be named at
once (the decoder does, and so do the statements). -/

/-- INC r and INC (HL) (R131, z = 4). -/
def incRow : Operand8 → Instr
  | .reg .B => .inc_B
  | .reg .C => .inc_C
  | .reg .D => .inc_D
  | .reg .E => .inc_E
  | .reg .H => .inc_H
  | .reg .L => .inc_L
  | .mHL => .inc_mHL
  | .reg .A => .inc_A

/-- DEC r and DEC (HL) (R131, z = 5). -/
def decRow : Operand8 → Instr
  | .reg .B => .dec_B
  | .reg .C => .dec_C
  | .reg .D => .dec_D
  | .reg .E => .dec_E
  | .reg .H => .dec_H
  | .reg .L => .dec_L
  | .mHL => .dec_mHL
  | .reg .A => .dec_A

/-- LD r,d8 and LD (HL),d8 (R131, z = 6). -/
def ldImmRow : Operand8 → Byte → Instr
  | .reg .B, d => .ld_B_d8 d
  | .reg .C, d => .ld_C_d8 d
  | .reg .D, d => .ld_D_d8 d
  | .reg .E, d => .ld_E_d8 d
  | .reg .H, d => .ld_H_d8 d
  | .reg .L, d => .ld_L_d8 d
  | .mHL, d => .ld_mHL_d8 d
  | .reg .A, d => .ld_A_d8 d

/-- `LD R8[y],R8[z]`: the x = 1 rows, with HALT in the place of LD (HL),(HL) (R132). -/
def ldRow : Operand8 → Operand8 → Instr
  | .reg .B, .reg .B => .ld_B_B
  | .reg .B, .reg .C => .ld_B_C
  | .reg .B, .reg .D => .ld_B_D
  | .reg .B, .reg .E => .ld_B_E
  | .reg .B, .reg .H => .ld_B_H
  | .reg .B, .reg .L => .ld_B_L
  | .reg .B, .mHL => .ld_B_mHL
  | .reg .B, .reg .A => .ld_B_A
  | .reg .C, .reg .B => .ld_C_B
  | .reg .C, .reg .C => .ld_C_C
  | .reg .C, .reg .D => .ld_C_D
  | .reg .C, .reg .E => .ld_C_E
  | .reg .C, .reg .H => .ld_C_H
  | .reg .C, .reg .L => .ld_C_L
  | .reg .C, .mHL => .ld_C_mHL
  | .reg .C, .reg .A => .ld_C_A
  | .reg .D, .reg .B => .ld_D_B
  | .reg .D, .reg .C => .ld_D_C
  | .reg .D, .reg .D => .ld_D_D
  | .reg .D, .reg .E => .ld_D_E
  | .reg .D, .reg .H => .ld_D_H
  | .reg .D, .reg .L => .ld_D_L
  | .reg .D, .mHL => .ld_D_mHL
  | .reg .D, .reg .A => .ld_D_A
  | .reg .E, .reg .B => .ld_E_B
  | .reg .E, .reg .C => .ld_E_C
  | .reg .E, .reg .D => .ld_E_D
  | .reg .E, .reg .E => .ld_E_E
  | .reg .E, .reg .H => .ld_E_H
  | .reg .E, .reg .L => .ld_E_L
  | .reg .E, .mHL => .ld_E_mHL
  | .reg .E, .reg .A => .ld_E_A
  | .reg .H, .reg .B => .ld_H_B
  | .reg .H, .reg .C => .ld_H_C
  | .reg .H, .reg .D => .ld_H_D
  | .reg .H, .reg .E => .ld_H_E
  | .reg .H, .reg .H => .ld_H_H
  | .reg .H, .reg .L => .ld_H_L
  | .reg .H, .mHL => .ld_H_mHL
  | .reg .H, .reg .A => .ld_H_A
  | .reg .L, .reg .B => .ld_L_B
  | .reg .L, .reg .C => .ld_L_C
  | .reg .L, .reg .D => .ld_L_D
  | .reg .L, .reg .E => .ld_L_E
  | .reg .L, .reg .H => .ld_L_H
  | .reg .L, .reg .L => .ld_L_L
  | .reg .L, .mHL => .ld_L_mHL
  | .reg .L, .reg .A => .ld_L_A
  | .mHL, .reg .B => .ld_mHL_B
  | .mHL, .reg .C => .ld_mHL_C
  | .mHL, .reg .D => .ld_mHL_D
  | .mHL, .reg .E => .ld_mHL_E
  | .mHL, .reg .H => .ld_mHL_H
  | .mHL, .reg .L => .ld_mHL_L
  | .mHL, .mHL => .halt
  | .mHL, .reg .A => .ld_mHL_A
  | .reg .A, .reg .B => .ld_A_B
  | .reg .A, .reg .C => .ld_A_C
  | .reg .A, .reg .D => .ld_A_D
  | .reg .A, .reg .E => .ld_A_E
  | .reg .A, .reg .H => .ld_A_H
  | .reg .A, .reg .L => .ld_A_L
  | .reg .A, .mHL => .ld_A_mHL
  | .reg .A, .reg .A => .ld_A_A

/-- `ALU[y] A,R8[z]` (R133, R129). -/
def aluRow : AluOp → Operand8 → Instr
  | .add, .reg .B => .add_A_B
  | .add, .reg .C => .add_A_C
  | .add, .reg .D => .add_A_D
  | .add, .reg .E => .add_A_E
  | .add, .reg .H => .add_A_H
  | .add, .reg .L => .add_A_L
  | .add, .mHL => .add_A_mHL
  | .add, .reg .A => .add_A_A
  | .adc, .reg .B => .adc_A_B
  | .adc, .reg .C => .adc_A_C
  | .adc, .reg .D => .adc_A_D
  | .adc, .reg .E => .adc_A_E
  | .adc, .reg .H => .adc_A_H
  | .adc, .reg .L => .adc_A_L
  | .adc, .mHL => .adc_A_mHL
  | .adc, .reg .A => .adc_A_A
  | .sub, .reg .B => .sub_B
  | .sub, .reg .C => .sub_C
  | .sub, .reg .D => .sub_D
  | .sub, .reg .E => .sub_E
  | .sub, .reg .H => .sub_H
  | .sub, .reg .L => .sub_L
  | .sub, .mHL => .sub_mHL
  | .sub, .reg .A => .sub_A
  | .sbc, .reg .B => .sbc_A_B
  | .sbc, .reg .C => .sbc_A_C
  | .sbc, .reg .D => .sbc_A_D
  | .sbc, .reg .E => .sbc_A_E
  | .sbc, .reg .H => .sbc_A_H
  | .sbc, .reg .L => .sbc_A_L
  | .sbc, .mHL => .sbc_A_mHL
  | .sbc, .reg .A => .sbc_A_A
  | .and, .reg .B => .and_B
  | .and, .reg .C => .and_C
  | .and, .reg .D => .and_D
  | .and, .reg .E => .and_E
  | .and, .reg .H => .and_H
  | .and, .reg .L => .and_L
  | .and, .mHL => .and_mHL
  | .and, .reg .A => .and_A
  | .xor, .reg .B => .xor_B
  | .xor, .reg .C => .xor_C
  | .xor, .reg .D => .xor_D
  | .xor, .reg .E => .xor_E
  | .xor, .reg .H => .xor_H
  | .xor, .reg .L => .xor_L
  | .xor, .mHL => .xor_mHL
  | .xor, .reg .A => .xor_A
  | .or, .reg .B => .or_B
  | .or, .reg .C => .or_C
  | .or, .reg .D => .or_D
  | .or, .reg .E => .or_E
  | .or, .reg .H => .or_H
  | .or, .reg .L => .or_L
  | .or, .mHL => .or_mHL
  | .or, .reg .A => .or_A
  | .cp, .reg .B => .cp_B
  | .cp, .reg .C => .cp_C
  | .cp, .reg .D => .cp_D
  | .cp, .reg .E => .cp_E
  | .cp, .reg .H => .cp_H
  | .cp, .reg .L => .cp_L
  | .cp, .mHL => .cp_mHL
  | .cp, .reg .A => .cp_A

/-- `ALU[y] A,d8` (R134, z = 6). -/
def aluImmRow : AluOp → Byte → Instr
  | .add, d => .add_A_d8 d
  | .adc, d => .adc_A_d8 d
  | .sub, d => .sub_d8 d
  | .sbc, d => .sbc_A_d8 d
  | .and, d => .and_d8 d
  | .xor, d => .xor_d8 d
  | .or, d => .or_d8 d
  | .cp, d => .cp_d8 d

/-- LD rr,d16 (R131, z = 1, q = 0). -/
def ldPairRow : Pair → Word → Instr
  | .BC, w => .ld_BC_d16 w
  | .DE, w => .ld_DE_d16 w
  | .HL, w => .ld_HL_d16 w
  | .SP, w => .ld_SP_d16 w

/-- ADD HL,rr (R131, z = 1, q = 1). -/
def addHLRow : Pair → Instr
  | .BC => .add_HL_BC
  | .DE => .add_HL_DE
  | .HL => .add_HL_HL
  | .SP => .add_HL_SP

/-- INC rr (R131, z = 3, q = 0). -/
def incPairRow : Pair → Instr
  | .BC => .inc_BC
  | .DE => .inc_DE
  | .HL => .inc_HL
  | .SP => .inc_SP

/-- DEC rr (R131, z = 3, q = 1). -/
def decPairRow : Pair → Instr
  | .BC => .dec_BC
  | .DE => .dec_DE
  | .HL => .dec_HL
  | .SP => .dec_SP

/-- LD (rr),A (R131, z = 2, q = 0). -/
def storeARow : Pointer → Instr
  | .BC => .ld_mBC_A
  | .DE => .ld_mDE_A
  | .HLI => .ld_mHLI_A
  | .HLD => .ld_mHLD_A

/-- LD A,(rr) (R131, z = 2, q = 1). -/
def loadARow : Pointer → Instr
  | .BC => .ld_A_mBC
  | .DE => .ld_A_mDE
  | .HLI => .ld_A_mHLI
  | .HLD => .ld_A_mHLD

/-- The x = 0, z = 7 rows by y: RLCA, RRCA, RLA, RRA, DAA, CPL, SCF, CCF (R131). -/
def accRow : Fin 8 → Instr
  | 0 => .rlca
  | 1 => .rrca
  | 2 => .rla
  | 3 => .rra
  | 4 => .daa
  | 5 => .cpl
  | 6 => .scf
  | 7 => .ccf

/-- JR cc,e8 (R131, z = 0, y = 4 to 7). -/
def jrRow : Cond → Byte → Instr
  | .NZ, e => .jr_NZ_e8 e
  | .Z, e => .jr_Z_e8 e
  | .NC, e => .jr_NC_e8 e
  | .C, e => .jr_C_e8 e

/-- JP cc,a16 (R134, z = 2). -/
def jpRow : Cond → Word → Instr
  | .NZ, w => .jp_NZ_a16 w
  | .Z, w => .jp_Z_a16 w
  | .NC, w => .jp_NC_a16 w
  | .C, w => .jp_C_a16 w

/-- CALL cc,a16 (R134, z = 4). -/
def callRow : Cond → Word → Instr
  | .NZ, w => .call_NZ_a16 w
  | .Z, w => .call_Z_a16 w
  | .NC, w => .call_NC_a16 w
  | .C, w => .call_C_a16 w

/-- RET cc (R134, z = 0). -/
def retRow : Cond → Instr
  | .NZ => .ret_NZ
  | .Z => .ret_Z
  | .NC => .ret_NC
  | .C => .ret_C

/-- PUSH rr (R134, z = 5, q = 0). -/
def pushRow : StackPair → Instr
  | .BC => .push_BC
  | .DE => .push_DE
  | .HL => .push_HL
  | .AF => .push_AF

/-- POP rr (R134, z = 1, q = 0). -/
def popRow : StackPair → Instr
  | .BC => .pop_BC
  | .DE => .pop_DE
  | .HL => .pop_HL
  | .AF => .pop_AF

/-- RST with target `y * 8` (R134, z = 7). -/
def rstRow : Fin 8 → Instr
  | 0 => .rst_00h
  | 1 => .rst_08h
  | 2 => .rst_10h
  | 3 => .rst_18h
  | 4 => .rst_20h
  | 5 => .rst_28h
  | 6 => .rst_30h
  | 7 => .rst_38h

/-- The CB rotates, shifts and SWAP (R130, x = 0). -/
def rotRow : RotOp → Operand8 → Instr
  | .rlc, .reg .B => .rlc_B
  | .rlc, .reg .C => .rlc_C
  | .rlc, .reg .D => .rlc_D
  | .rlc, .reg .E => .rlc_E
  | .rlc, .reg .H => .rlc_H
  | .rlc, .reg .L => .rlc_L
  | .rlc, .mHL => .rlc_mHL
  | .rlc, .reg .A => .rlc_A
  | .rrc, .reg .B => .rrc_B
  | .rrc, .reg .C => .rrc_C
  | .rrc, .reg .D => .rrc_D
  | .rrc, .reg .E => .rrc_E
  | .rrc, .reg .H => .rrc_H
  | .rrc, .reg .L => .rrc_L
  | .rrc, .mHL => .rrc_mHL
  | .rrc, .reg .A => .rrc_A
  | .rl, .reg .B => .rl_B
  | .rl, .reg .C => .rl_C
  | .rl, .reg .D => .rl_D
  | .rl, .reg .E => .rl_E
  | .rl, .reg .H => .rl_H
  | .rl, .reg .L => .rl_L
  | .rl, .mHL => .rl_mHL
  | .rl, .reg .A => .rl_A
  | .rr, .reg .B => .rr_B
  | .rr, .reg .C => .rr_C
  | .rr, .reg .D => .rr_D
  | .rr, .reg .E => .rr_E
  | .rr, .reg .H => .rr_H
  | .rr, .reg .L => .rr_L
  | .rr, .mHL => .rr_mHL
  | .rr, .reg .A => .rr_A
  | .sla, .reg .B => .sla_B
  | .sla, .reg .C => .sla_C
  | .sla, .reg .D => .sla_D
  | .sla, .reg .E => .sla_E
  | .sla, .reg .H => .sla_H
  | .sla, .reg .L => .sla_L
  | .sla, .mHL => .sla_mHL
  | .sla, .reg .A => .sla_A
  | .sra, .reg .B => .sra_B
  | .sra, .reg .C => .sra_C
  | .sra, .reg .D => .sra_D
  | .sra, .reg .E => .sra_E
  | .sra, .reg .H => .sra_H
  | .sra, .reg .L => .sra_L
  | .sra, .mHL => .sra_mHL
  | .sra, .reg .A => .sra_A
  | .swap, .reg .B => .swap_B
  | .swap, .reg .C => .swap_C
  | .swap, .reg .D => .swap_D
  | .swap, .reg .E => .swap_E
  | .swap, .reg .H => .swap_H
  | .swap, .reg .L => .swap_L
  | .swap, .mHL => .swap_mHL
  | .swap, .reg .A => .swap_A
  | .srl, .reg .B => .srl_B
  | .srl, .reg .C => .srl_C
  | .srl, .reg .D => .srl_D
  | .srl, .reg .E => .srl_E
  | .srl, .reg .H => .srl_H
  | .srl, .reg .L => .srl_L
  | .srl, .mHL => .srl_mHL
  | .srl, .reg .A => .srl_A

/-- BIT b,r and BIT b,(HL) (R130, x = 1). -/
def bitRow : Fin 8 → Operand8 → Instr
  | 0, .reg .B => .bit_0_B
  | 0, .reg .C => .bit_0_C
  | 0, .reg .D => .bit_0_D
  | 0, .reg .E => .bit_0_E
  | 0, .reg .H => .bit_0_H
  | 0, .reg .L => .bit_0_L
  | 0, .mHL => .bit_0_mHL
  | 0, .reg .A => .bit_0_A
  | 1, .reg .B => .bit_1_B
  | 1, .reg .C => .bit_1_C
  | 1, .reg .D => .bit_1_D
  | 1, .reg .E => .bit_1_E
  | 1, .reg .H => .bit_1_H
  | 1, .reg .L => .bit_1_L
  | 1, .mHL => .bit_1_mHL
  | 1, .reg .A => .bit_1_A
  | 2, .reg .B => .bit_2_B
  | 2, .reg .C => .bit_2_C
  | 2, .reg .D => .bit_2_D
  | 2, .reg .E => .bit_2_E
  | 2, .reg .H => .bit_2_H
  | 2, .reg .L => .bit_2_L
  | 2, .mHL => .bit_2_mHL
  | 2, .reg .A => .bit_2_A
  | 3, .reg .B => .bit_3_B
  | 3, .reg .C => .bit_3_C
  | 3, .reg .D => .bit_3_D
  | 3, .reg .E => .bit_3_E
  | 3, .reg .H => .bit_3_H
  | 3, .reg .L => .bit_3_L
  | 3, .mHL => .bit_3_mHL
  | 3, .reg .A => .bit_3_A
  | 4, .reg .B => .bit_4_B
  | 4, .reg .C => .bit_4_C
  | 4, .reg .D => .bit_4_D
  | 4, .reg .E => .bit_4_E
  | 4, .reg .H => .bit_4_H
  | 4, .reg .L => .bit_4_L
  | 4, .mHL => .bit_4_mHL
  | 4, .reg .A => .bit_4_A
  | 5, .reg .B => .bit_5_B
  | 5, .reg .C => .bit_5_C
  | 5, .reg .D => .bit_5_D
  | 5, .reg .E => .bit_5_E
  | 5, .reg .H => .bit_5_H
  | 5, .reg .L => .bit_5_L
  | 5, .mHL => .bit_5_mHL
  | 5, .reg .A => .bit_5_A
  | 6, .reg .B => .bit_6_B
  | 6, .reg .C => .bit_6_C
  | 6, .reg .D => .bit_6_D
  | 6, .reg .E => .bit_6_E
  | 6, .reg .H => .bit_6_H
  | 6, .reg .L => .bit_6_L
  | 6, .mHL => .bit_6_mHL
  | 6, .reg .A => .bit_6_A
  | 7, .reg .B => .bit_7_B
  | 7, .reg .C => .bit_7_C
  | 7, .reg .D => .bit_7_D
  | 7, .reg .E => .bit_7_E
  | 7, .reg .H => .bit_7_H
  | 7, .reg .L => .bit_7_L
  | 7, .mHL => .bit_7_mHL
  | 7, .reg .A => .bit_7_A

/-- RES b,r and RES b,(HL) (R130, x = 2). -/
def resRow : Fin 8 → Operand8 → Instr
  | 0, .reg .B => .res_0_B
  | 0, .reg .C => .res_0_C
  | 0, .reg .D => .res_0_D
  | 0, .reg .E => .res_0_E
  | 0, .reg .H => .res_0_H
  | 0, .reg .L => .res_0_L
  | 0, .mHL => .res_0_mHL
  | 0, .reg .A => .res_0_A
  | 1, .reg .B => .res_1_B
  | 1, .reg .C => .res_1_C
  | 1, .reg .D => .res_1_D
  | 1, .reg .E => .res_1_E
  | 1, .reg .H => .res_1_H
  | 1, .reg .L => .res_1_L
  | 1, .mHL => .res_1_mHL
  | 1, .reg .A => .res_1_A
  | 2, .reg .B => .res_2_B
  | 2, .reg .C => .res_2_C
  | 2, .reg .D => .res_2_D
  | 2, .reg .E => .res_2_E
  | 2, .reg .H => .res_2_H
  | 2, .reg .L => .res_2_L
  | 2, .mHL => .res_2_mHL
  | 2, .reg .A => .res_2_A
  | 3, .reg .B => .res_3_B
  | 3, .reg .C => .res_3_C
  | 3, .reg .D => .res_3_D
  | 3, .reg .E => .res_3_E
  | 3, .reg .H => .res_3_H
  | 3, .reg .L => .res_3_L
  | 3, .mHL => .res_3_mHL
  | 3, .reg .A => .res_3_A
  | 4, .reg .B => .res_4_B
  | 4, .reg .C => .res_4_C
  | 4, .reg .D => .res_4_D
  | 4, .reg .E => .res_4_E
  | 4, .reg .H => .res_4_H
  | 4, .reg .L => .res_4_L
  | 4, .mHL => .res_4_mHL
  | 4, .reg .A => .res_4_A
  | 5, .reg .B => .res_5_B
  | 5, .reg .C => .res_5_C
  | 5, .reg .D => .res_5_D
  | 5, .reg .E => .res_5_E
  | 5, .reg .H => .res_5_H
  | 5, .reg .L => .res_5_L
  | 5, .mHL => .res_5_mHL
  | 5, .reg .A => .res_5_A
  | 6, .reg .B => .res_6_B
  | 6, .reg .C => .res_6_C
  | 6, .reg .D => .res_6_D
  | 6, .reg .E => .res_6_E
  | 6, .reg .H => .res_6_H
  | 6, .reg .L => .res_6_L
  | 6, .mHL => .res_6_mHL
  | 6, .reg .A => .res_6_A
  | 7, .reg .B => .res_7_B
  | 7, .reg .C => .res_7_C
  | 7, .reg .D => .res_7_D
  | 7, .reg .E => .res_7_E
  | 7, .reg .H => .res_7_H
  | 7, .reg .L => .res_7_L
  | 7, .mHL => .res_7_mHL
  | 7, .reg .A => .res_7_A

/-- SET b,r and SET b,(HL) (R130, x = 3). -/
def setRow : Fin 8 → Operand8 → Instr
  | 0, .reg .B => .set_0_B
  | 0, .reg .C => .set_0_C
  | 0, .reg .D => .set_0_D
  | 0, .reg .E => .set_0_E
  | 0, .reg .H => .set_0_H
  | 0, .reg .L => .set_0_L
  | 0, .mHL => .set_0_mHL
  | 0, .reg .A => .set_0_A
  | 1, .reg .B => .set_1_B
  | 1, .reg .C => .set_1_C
  | 1, .reg .D => .set_1_D
  | 1, .reg .E => .set_1_E
  | 1, .reg .H => .set_1_H
  | 1, .reg .L => .set_1_L
  | 1, .mHL => .set_1_mHL
  | 1, .reg .A => .set_1_A
  | 2, .reg .B => .set_2_B
  | 2, .reg .C => .set_2_C
  | 2, .reg .D => .set_2_D
  | 2, .reg .E => .set_2_E
  | 2, .reg .H => .set_2_H
  | 2, .reg .L => .set_2_L
  | 2, .mHL => .set_2_mHL
  | 2, .reg .A => .set_2_A
  | 3, .reg .B => .set_3_B
  | 3, .reg .C => .set_3_C
  | 3, .reg .D => .set_3_D
  | 3, .reg .E => .set_3_E
  | 3, .reg .H => .set_3_H
  | 3, .reg .L => .set_3_L
  | 3, .mHL => .set_3_mHL
  | 3, .reg .A => .set_3_A
  | 4, .reg .B => .set_4_B
  | 4, .reg .C => .set_4_C
  | 4, .reg .D => .set_4_D
  | 4, .reg .E => .set_4_E
  | 4, .reg .H => .set_4_H
  | 4, .reg .L => .set_4_L
  | 4, .mHL => .set_4_mHL
  | 4, .reg .A => .set_4_A
  | 5, .reg .B => .set_5_B
  | 5, .reg .C => .set_5_C
  | 5, .reg .D => .set_5_D
  | 5, .reg .E => .set_5_E
  | 5, .reg .H => .set_5_H
  | 5, .reg .L => .set_5_L
  | 5, .mHL => .set_5_mHL
  | 5, .reg .A => .set_5_A
  | 6, .reg .B => .set_6_B
  | 6, .reg .C => .set_6_C
  | 6, .reg .D => .set_6_D
  | 6, .reg .E => .set_6_E
  | 6, .reg .H => .set_6_H
  | 6, .reg .L => .set_6_L
  | 6, .mHL => .set_6_mHL
  | 6, .reg .A => .set_6_A
  | 7, .reg .B => .set_7_B
  | 7, .reg .C => .set_7_C
  | 7, .reg .D => .set_7_D
  | 7, .reg .E => .set_7_E
  | 7, .reg .H => .set_7_H
  | 7, .reg .L => .set_7_L
  | 7, .mHL => .set_7_mHL
  | 7, .reg .A => .set_7_A

/-! ## The decoder -/

/-- Quadrant x = 0 (R131). -/
def decodeX0 (op d : Byte) (w : Word) : Instr :=
  match zField op with
  | 0 =>
    match yField op with
    | 0 => .nop
    | 1 => .ld_ma16_SP w
    | 2 => .stop d
    | 3 => .jr_e8 d
    | 4 | 5 | 6 | 7 => jrRow (condOf (ccField op)) d
  | 1 => if qField op then addHLRow (pairOf (pField op)) else ldPairRow (pairOf (pField op)) w
  | 2 => if qField op then loadARow (pointerOf (pField op)) else storeARow (pointerOf (pField op))
  | 3 => if qField op then decPairRow (pairOf (pField op)) else incPairRow (pairOf (pField op))
  | 4 => incRow (operandOf (yField op))
  | 5 => decRow (operandOf (yField op))
  | 6 => ldImmRow (operandOf (yField op)) d
  | 7 => accRow (yField op)

/-- Quadrant x = 3, less the prefix byte (R134, R137). -/
def decodeX3 (op d : Byte) (w : Word) : Instr :=
  match zField op with
  | 0 =>
    match yField op with
    | 0 | 1 | 2 | 3 => retRow (condOf (ccField op))
    | 4 => .ldh_ma8_A d
    | 5 => .add_SP_e8 d
    | 6 => .ldh_A_ma8 d
    | 7 => .ld_HL_SPe8 d
  | 1 =>
    if qField op then
      match pField op with
      | 0 => .ret
      | 1 => .reti
      | 2 => .jp_HL
      | 3 => .ld_SP_HL
    else popRow (stackPairOf (pField op))
  | 2 =>
    match yField op with
    | 0 | 1 | 2 | 3 => jpRow (condOf (ccField op)) w
    | 4 => .ldh_mC_A
    | 5 => .ld_ma16_A w
    | 6 => .ldh_A_mC
    | 7 => .ld_A_ma16 w
  | 3 =>
    match yField op with
    | 0 => .jp_a16 w
    | 1 => .prefix_CB d
    | 2 | 3 | 4 | 5 => .illegal op
    | 6 => .di
    | 7 => .ei
  | 4 =>
    match yField op with
    | 0 | 1 | 2 | 3 => callRow (condOf (ccField op)) w
    | 4 | 5 | 6 | 7 => .illegal op
  | 5 =>
    if qField op then
      match pField op with
      | 0 => .call_a16 w
      | 1 | 2 | 3 => .illegal op
    else pushRow (stackPairOf (pField op))
  | 6 => aluImmRow (aluOf (yField op)) d
  | 7 => rstRow (yField op)

/-- Primary-table entry `op` (R131 to R135), with `d` the byte after the opcode and `w` the word after
it; a row takes the one its format has (R120, R124). -/
def decodePrimary (op d : Byte) (w : Word) : Instr :=
  match xField op with
  | 0 => decodeX0 op d w
  | 1 => ldRow (operandOf (yField op)) (operandOf (zField op))
  | 2 => aluRow (aluOf (yField op)) (operandOf (zField op))
  | 3 => decodeX3 op d w

/-- CB-table entry `op2` (R130, R136). -/
def decodeCb (op2 : Byte) : Instr :=
  match xField op2 with
  | 0 => rotRow (rotOf (yField op2)) (operandOf (zField op2))
  | 1 => bitRow (yField op2) (operandOf (zField op2))
  | 2 => resRow (yField op2) (operandOf (zField op2))
  | 3 => setRow (yField op2) (operandOf (zField op2))

/-- The instruction formats (R120). -/
inductive Format where
  | op | opD8 | opE8 | opA8 | opD16 | stop | cb
deriving DecidableEq, Repr

/-- The length in bytes of an instruction of the format (R120). -/
def Format.length : Format → Nat
  | .op => 1
  | .opD8 | .opE8 | .opA8 | .stop | .cb => 2
  | .opD16 => 3

/-- The format of an x = 0 opcode other than STOP (R120, R131). -/
def formatX0 (op : Byte) : Format :=
  match zField op with
  | 0 => if yField op = 0 then .op else if yField op = 1 then .opD16 else .opE8
  | 1 => if qField op then .op else .opD16
  | 6 => .opD8
  | 2 | 3 | 4 | 5 | 7 => .op

/-- The format of an x = 3 opcode other than the prefix (R120, R134); an unassigned opcode is one byte
long (45_system.md R420). -/
def formatX3 (op : Byte) : Format :=
  match zField op with
  | 0 =>
    match yField op with
    | 0 | 1 | 2 | 3 => .op
    | 4 | 6 => .opA8
    | 5 | 7 => .opE8
  | 2 =>
    match yField op with
    | 0 | 1 | 2 | 3 | 5 | 7 => .opD16
    | 4 | 6 => .op
  | 3 => if yField op = 0 then .opD16 else .op
  | 4 =>
    match yField op with
    | 0 | 1 | 2 | 3 => .opD16
    | 4 | 5 | 6 | 7 => .op
  | 5 => if yField op = 1 then .opD16 else .op
  | 6 => .opD8
  | 1 | 7 => .op

/-- The format of the instruction whose first byte is `op`: "The length is a function of the first byte
alone" (R123). -/
def formatOf (op : Byte) : Format :=
  if op = 0xCB then .cb
  else if op = 0x10 then .stop
  else
    match xField op with
    | 0 => formatX0 op
    | 1 | 2 => .op
    | 3 => formatX3 op

/-- The instruction whose bytes are `op`, `b1`, `b2`, of which it has as many as its format says
(the decode procedure, R122; `d16` and `a16` are low byte first, R124). -/
def decodeRow (op b1 b2 : Byte) : Instr :=
  if op = 0xCB then decodeCb b1 else decodePrimary op b1 (mkWord b2 b1)

/-- Why bytes are no instruction: every opcode byte starts one (R135 to R137), so only missing bytes. -/
inductive DecodeError where
  /-- There is no byte at all. -/
  | noBytes
  /-- The instruction of this opcode byte is longer than the bytes given. -/
  | truncated (op : Byte)
deriving DecidableEq, Repr

/-- The instruction that the bytes begin with, and the bytes after it (R120, R122, R123). -/
def decode : List Byte → Except DecodeError (Instr × List Byte)
  | [] => .error .noBytes
  | op :: rest =>
    match formatOf op, rest with
    | .op, r => .ok (decodeRow op 0 0, r)
    | .opD8, b1 :: r | .opE8, b1 :: r | .opA8, b1 :: r | .stop, b1 :: r | .cb, b1 :: r =>
      .ok (decodeRow op b1 0, r)
    | .opD16, b1 :: b2 :: r => .ok (decodeRow op b1 b2, r)
    | _, _ => .error (.truncated op)

/-! ## The encoder -/

/-- The two bytes of a 16-bit immediate in fetch order, low byte first (R124). -/
def wordBytes (w : Word) : List Byte := [lo8 w, hi8 w]

/-- The bytes of an instruction in fetch order: the opcode bytes of the grids R135 and R136 (the `match`
values of spec/opcode_table.json), then the immediate of the row's format (R120, R124). -/
def encode (i : Instr) : List Byte :=
  match i with
  | .nop => [0x00]
  | .ld_BC_d16 w => 0x01 :: wordBytes w
  | .ld_mBC_A => [0x02]
  | .inc_BC => [0x03]
  | .inc_B => [0x04]
  | .dec_B => [0x05]
  | .ld_B_d8 d => [0x06, d]
  | .rlca => [0x07]
  | .ld_ma16_SP w => 0x08 :: wordBytes w
  | .add_HL_BC => [0x09]
  | .ld_A_mBC => [0x0A]
  | .dec_BC => [0x0B]
  | .inc_C => [0x0C]
  | .dec_C => [0x0D]
  | .ld_C_d8 d => [0x0E, d]
  | .rrca => [0x0F]
  | .stop ignored => [0x10, ignored]
  | .ld_DE_d16 w => 0x11 :: wordBytes w
  | .ld_mDE_A => [0x12]
  | .inc_DE => [0x13]
  | .inc_D => [0x14]
  | .dec_D => [0x15]
  | .ld_D_d8 d => [0x16, d]
  | .rla => [0x17]
  | .jr_e8 e => [0x18, e]
  | .add_HL_DE => [0x19]
  | .ld_A_mDE => [0x1A]
  | .dec_DE => [0x1B]
  | .inc_E => [0x1C]
  | .dec_E => [0x1D]
  | .ld_E_d8 d => [0x1E, d]
  | .rra => [0x1F]
  | .jr_NZ_e8 e => [0x20, e]
  | .ld_HL_d16 w => 0x21 :: wordBytes w
  | .ld_mHLI_A => [0x22]
  | .inc_HL => [0x23]
  | .inc_H => [0x24]
  | .dec_H => [0x25]
  | .ld_H_d8 d => [0x26, d]
  | .daa => [0x27]
  | .jr_Z_e8 e => [0x28, e]
  | .add_HL_HL => [0x29]
  | .ld_A_mHLI => [0x2A]
  | .dec_HL => [0x2B]
  | .inc_L => [0x2C]
  | .dec_L => [0x2D]
  | .ld_L_d8 d => [0x2E, d]
  | .cpl => [0x2F]
  | .jr_NC_e8 e => [0x30, e]
  | .ld_SP_d16 w => 0x31 :: wordBytes w
  | .ld_mHLD_A => [0x32]
  | .inc_SP => [0x33]
  | .inc_mHL => [0x34]
  | .dec_mHL => [0x35]
  | .ld_mHL_d8 d => [0x36, d]
  | .scf => [0x37]
  | .jr_C_e8 e => [0x38, e]
  | .add_HL_SP => [0x39]
  | .ld_A_mHLD => [0x3A]
  | .dec_SP => [0x3B]
  | .inc_A => [0x3C]
  | .dec_A => [0x3D]
  | .ld_A_d8 d => [0x3E, d]
  | .ccf => [0x3F]
  | .ld_B_B => [0x40]
  | .ld_B_C => [0x41]
  | .ld_B_D => [0x42]
  | .ld_B_E => [0x43]
  | .ld_B_H => [0x44]
  | .ld_B_L => [0x45]
  | .ld_B_mHL => [0x46]
  | .ld_B_A => [0x47]
  | .ld_C_B => [0x48]
  | .ld_C_C => [0x49]
  | .ld_C_D => [0x4A]
  | .ld_C_E => [0x4B]
  | .ld_C_H => [0x4C]
  | .ld_C_L => [0x4D]
  | .ld_C_mHL => [0x4E]
  | .ld_C_A => [0x4F]
  | .ld_D_B => [0x50]
  | .ld_D_C => [0x51]
  | .ld_D_D => [0x52]
  | .ld_D_E => [0x53]
  | .ld_D_H => [0x54]
  | .ld_D_L => [0x55]
  | .ld_D_mHL => [0x56]
  | .ld_D_A => [0x57]
  | .ld_E_B => [0x58]
  | .ld_E_C => [0x59]
  | .ld_E_D => [0x5A]
  | .ld_E_E => [0x5B]
  | .ld_E_H => [0x5C]
  | .ld_E_L => [0x5D]
  | .ld_E_mHL => [0x5E]
  | .ld_E_A => [0x5F]
  | .ld_H_B => [0x60]
  | .ld_H_C => [0x61]
  | .ld_H_D => [0x62]
  | .ld_H_E => [0x63]
  | .ld_H_H => [0x64]
  | .ld_H_L => [0x65]
  | .ld_H_mHL => [0x66]
  | .ld_H_A => [0x67]
  | .ld_L_B => [0x68]
  | .ld_L_C => [0x69]
  | .ld_L_D => [0x6A]
  | .ld_L_E => [0x6B]
  | .ld_L_H => [0x6C]
  | .ld_L_L => [0x6D]
  | .ld_L_mHL => [0x6E]
  | .ld_L_A => [0x6F]
  | .ld_mHL_B => [0x70]
  | .ld_mHL_C => [0x71]
  | .ld_mHL_D => [0x72]
  | .ld_mHL_E => [0x73]
  | .ld_mHL_H => [0x74]
  | .ld_mHL_L => [0x75]
  | .halt => [0x76]
  | .ld_mHL_A => [0x77]
  | .ld_A_B => [0x78]
  | .ld_A_C => [0x79]
  | .ld_A_D => [0x7A]
  | .ld_A_E => [0x7B]
  | .ld_A_H => [0x7C]
  | .ld_A_L => [0x7D]
  | .ld_A_mHL => [0x7E]
  | .ld_A_A => [0x7F]
  | .add_A_B => [0x80]
  | .add_A_C => [0x81]
  | .add_A_D => [0x82]
  | .add_A_E => [0x83]
  | .add_A_H => [0x84]
  | .add_A_L => [0x85]
  | .add_A_mHL => [0x86]
  | .add_A_A => [0x87]
  | .adc_A_B => [0x88]
  | .adc_A_C => [0x89]
  | .adc_A_D => [0x8A]
  | .adc_A_E => [0x8B]
  | .adc_A_H => [0x8C]
  | .adc_A_L => [0x8D]
  | .adc_A_mHL => [0x8E]
  | .adc_A_A => [0x8F]
  | .sub_B => [0x90]
  | .sub_C => [0x91]
  | .sub_D => [0x92]
  | .sub_E => [0x93]
  | .sub_H => [0x94]
  | .sub_L => [0x95]
  | .sub_mHL => [0x96]
  | .sub_A => [0x97]
  | .sbc_A_B => [0x98]
  | .sbc_A_C => [0x99]
  | .sbc_A_D => [0x9A]
  | .sbc_A_E => [0x9B]
  | .sbc_A_H => [0x9C]
  | .sbc_A_L => [0x9D]
  | .sbc_A_mHL => [0x9E]
  | .sbc_A_A => [0x9F]
  | .and_B => [0xA0]
  | .and_C => [0xA1]
  | .and_D => [0xA2]
  | .and_E => [0xA3]
  | .and_H => [0xA4]
  | .and_L => [0xA5]
  | .and_mHL => [0xA6]
  | .and_A => [0xA7]
  | .xor_B => [0xA8]
  | .xor_C => [0xA9]
  | .xor_D => [0xAA]
  | .xor_E => [0xAB]
  | .xor_H => [0xAC]
  | .xor_L => [0xAD]
  | .xor_mHL => [0xAE]
  | .xor_A => [0xAF]
  | .or_B => [0xB0]
  | .or_C => [0xB1]
  | .or_D => [0xB2]
  | .or_E => [0xB3]
  | .or_H => [0xB4]
  | .or_L => [0xB5]
  | .or_mHL => [0xB6]
  | .or_A => [0xB7]
  | .cp_B => [0xB8]
  | .cp_C => [0xB9]
  | .cp_D => [0xBA]
  | .cp_E => [0xBB]
  | .cp_H => [0xBC]
  | .cp_L => [0xBD]
  | .cp_mHL => [0xBE]
  | .cp_A => [0xBF]
  | .ret_NZ => [0xC0]
  | .pop_BC => [0xC1]
  | .jp_NZ_a16 w => 0xC2 :: wordBytes w
  | .jp_a16 w => 0xC3 :: wordBytes w
  | .call_NZ_a16 w => 0xC4 :: wordBytes w
  | .push_BC => [0xC5]
  | .add_A_d8 d => [0xC6, d]
  | .rst_00h => [0xC7]
  | .ret_Z => [0xC8]
  | .ret => [0xC9]
  | .jp_Z_a16 w => 0xCA :: wordBytes w
  | .prefix_CB op2 => [0xCB, op2]
  | .call_Z_a16 w => 0xCC :: wordBytes w
  | .call_a16 w => 0xCD :: wordBytes w
  | .adc_A_d8 d => [0xCE, d]
  | .rst_08h => [0xCF]
  | .ret_NC => [0xD0]
  | .pop_DE => [0xD1]
  | .jp_NC_a16 w => 0xD2 :: wordBytes w
  | .illegal op => [op]
  | .call_NC_a16 w => 0xD4 :: wordBytes w
  | .push_DE => [0xD5]
  | .sub_d8 d => [0xD6, d]
  | .rst_10h => [0xD7]
  | .ret_C => [0xD8]
  | .reti => [0xD9]
  | .jp_C_a16 w => 0xDA :: wordBytes w
  | .call_C_a16 w => 0xDC :: wordBytes w
  | .sbc_A_d8 d => [0xDE, d]
  | .rst_18h => [0xDF]
  | .ldh_ma8_A n => [0xE0, n]
  | .pop_HL => [0xE1]
  | .ldh_mC_A => [0xE2]
  | .push_HL => [0xE5]
  | .and_d8 d => [0xE6, d]
  | .rst_20h => [0xE7]
  | .add_SP_e8 e => [0xE8, e]
  | .jp_HL => [0xE9]
  | .ld_ma16_A w => 0xEA :: wordBytes w
  | .xor_d8 d => [0xEE, d]
  | .rst_28h => [0xEF]
  | .ldh_A_ma8 n => [0xF0, n]
  | .pop_AF => [0xF1]
  | .ldh_A_mC => [0xF2]
  | .di => [0xF3]
  | .push_AF => [0xF5]
  | .or_d8 d => [0xF6, d]
  | .rst_30h => [0xF7]
  | .ld_HL_SPe8 e => [0xF8, e]
  | .ld_SP_HL => [0xF9]
  | .ld_A_ma16 w => 0xFA :: wordBytes w
  | .ei => [0xFB]
  | .cp_d8 d => [0xFE, d]
  | .rst_38h => [0xFF]
  | .rlc_B => [0xCB, 0x00]
  | .rlc_C => [0xCB, 0x01]
  | .rlc_D => [0xCB, 0x02]
  | .rlc_E => [0xCB, 0x03]
  | .rlc_H => [0xCB, 0x04]
  | .rlc_L => [0xCB, 0x05]
  | .rlc_mHL => [0xCB, 0x06]
  | .rlc_A => [0xCB, 0x07]
  | .rrc_B => [0xCB, 0x08]
  | .rrc_C => [0xCB, 0x09]
  | .rrc_D => [0xCB, 0x0A]
  | .rrc_E => [0xCB, 0x0B]
  | .rrc_H => [0xCB, 0x0C]
  | .rrc_L => [0xCB, 0x0D]
  | .rrc_mHL => [0xCB, 0x0E]
  | .rrc_A => [0xCB, 0x0F]
  | .rl_B => [0xCB, 0x10]
  | .rl_C => [0xCB, 0x11]
  | .rl_D => [0xCB, 0x12]
  | .rl_E => [0xCB, 0x13]
  | .rl_H => [0xCB, 0x14]
  | .rl_L => [0xCB, 0x15]
  | .rl_mHL => [0xCB, 0x16]
  | .rl_A => [0xCB, 0x17]
  | .rr_B => [0xCB, 0x18]
  | .rr_C => [0xCB, 0x19]
  | .rr_D => [0xCB, 0x1A]
  | .rr_E => [0xCB, 0x1B]
  | .rr_H => [0xCB, 0x1C]
  | .rr_L => [0xCB, 0x1D]
  | .rr_mHL => [0xCB, 0x1E]
  | .rr_A => [0xCB, 0x1F]
  | .sla_B => [0xCB, 0x20]
  | .sla_C => [0xCB, 0x21]
  | .sla_D => [0xCB, 0x22]
  | .sla_E => [0xCB, 0x23]
  | .sla_H => [0xCB, 0x24]
  | .sla_L => [0xCB, 0x25]
  | .sla_mHL => [0xCB, 0x26]
  | .sla_A => [0xCB, 0x27]
  | .sra_B => [0xCB, 0x28]
  | .sra_C => [0xCB, 0x29]
  | .sra_D => [0xCB, 0x2A]
  | .sra_E => [0xCB, 0x2B]
  | .sra_H => [0xCB, 0x2C]
  | .sra_L => [0xCB, 0x2D]
  | .sra_mHL => [0xCB, 0x2E]
  | .sra_A => [0xCB, 0x2F]
  | .swap_B => [0xCB, 0x30]
  | .swap_C => [0xCB, 0x31]
  | .swap_D => [0xCB, 0x32]
  | .swap_E => [0xCB, 0x33]
  | .swap_H => [0xCB, 0x34]
  | .swap_L => [0xCB, 0x35]
  | .swap_mHL => [0xCB, 0x36]
  | .swap_A => [0xCB, 0x37]
  | .srl_B => [0xCB, 0x38]
  | .srl_C => [0xCB, 0x39]
  | .srl_D => [0xCB, 0x3A]
  | .srl_E => [0xCB, 0x3B]
  | .srl_H => [0xCB, 0x3C]
  | .srl_L => [0xCB, 0x3D]
  | .srl_mHL => [0xCB, 0x3E]
  | .srl_A => [0xCB, 0x3F]
  | .bit_0_B => [0xCB, 0x40]
  | .bit_0_C => [0xCB, 0x41]
  | .bit_0_D => [0xCB, 0x42]
  | .bit_0_E => [0xCB, 0x43]
  | .bit_0_H => [0xCB, 0x44]
  | .bit_0_L => [0xCB, 0x45]
  | .bit_0_mHL => [0xCB, 0x46]
  | .bit_0_A => [0xCB, 0x47]
  | .bit_1_B => [0xCB, 0x48]
  | .bit_1_C => [0xCB, 0x49]
  | .bit_1_D => [0xCB, 0x4A]
  | .bit_1_E => [0xCB, 0x4B]
  | .bit_1_H => [0xCB, 0x4C]
  | .bit_1_L => [0xCB, 0x4D]
  | .bit_1_mHL => [0xCB, 0x4E]
  | .bit_1_A => [0xCB, 0x4F]
  | .bit_2_B => [0xCB, 0x50]
  | .bit_2_C => [0xCB, 0x51]
  | .bit_2_D => [0xCB, 0x52]
  | .bit_2_E => [0xCB, 0x53]
  | .bit_2_H => [0xCB, 0x54]
  | .bit_2_L => [0xCB, 0x55]
  | .bit_2_mHL => [0xCB, 0x56]
  | .bit_2_A => [0xCB, 0x57]
  | .bit_3_B => [0xCB, 0x58]
  | .bit_3_C => [0xCB, 0x59]
  | .bit_3_D => [0xCB, 0x5A]
  | .bit_3_E => [0xCB, 0x5B]
  | .bit_3_H => [0xCB, 0x5C]
  | .bit_3_L => [0xCB, 0x5D]
  | .bit_3_mHL => [0xCB, 0x5E]
  | .bit_3_A => [0xCB, 0x5F]
  | .bit_4_B => [0xCB, 0x60]
  | .bit_4_C => [0xCB, 0x61]
  | .bit_4_D => [0xCB, 0x62]
  | .bit_4_E => [0xCB, 0x63]
  | .bit_4_H => [0xCB, 0x64]
  | .bit_4_L => [0xCB, 0x65]
  | .bit_4_mHL => [0xCB, 0x66]
  | .bit_4_A => [0xCB, 0x67]
  | .bit_5_B => [0xCB, 0x68]
  | .bit_5_C => [0xCB, 0x69]
  | .bit_5_D => [0xCB, 0x6A]
  | .bit_5_E => [0xCB, 0x6B]
  | .bit_5_H => [0xCB, 0x6C]
  | .bit_5_L => [0xCB, 0x6D]
  | .bit_5_mHL => [0xCB, 0x6E]
  | .bit_5_A => [0xCB, 0x6F]
  | .bit_6_B => [0xCB, 0x70]
  | .bit_6_C => [0xCB, 0x71]
  | .bit_6_D => [0xCB, 0x72]
  | .bit_6_E => [0xCB, 0x73]
  | .bit_6_H => [0xCB, 0x74]
  | .bit_6_L => [0xCB, 0x75]
  | .bit_6_mHL => [0xCB, 0x76]
  | .bit_6_A => [0xCB, 0x77]
  | .bit_7_B => [0xCB, 0x78]
  | .bit_7_C => [0xCB, 0x79]
  | .bit_7_D => [0xCB, 0x7A]
  | .bit_7_E => [0xCB, 0x7B]
  | .bit_7_H => [0xCB, 0x7C]
  | .bit_7_L => [0xCB, 0x7D]
  | .bit_7_mHL => [0xCB, 0x7E]
  | .bit_7_A => [0xCB, 0x7F]
  | .res_0_B => [0xCB, 0x80]
  | .res_0_C => [0xCB, 0x81]
  | .res_0_D => [0xCB, 0x82]
  | .res_0_E => [0xCB, 0x83]
  | .res_0_H => [0xCB, 0x84]
  | .res_0_L => [0xCB, 0x85]
  | .res_0_mHL => [0xCB, 0x86]
  | .res_0_A => [0xCB, 0x87]
  | .res_1_B => [0xCB, 0x88]
  | .res_1_C => [0xCB, 0x89]
  | .res_1_D => [0xCB, 0x8A]
  | .res_1_E => [0xCB, 0x8B]
  | .res_1_H => [0xCB, 0x8C]
  | .res_1_L => [0xCB, 0x8D]
  | .res_1_mHL => [0xCB, 0x8E]
  | .res_1_A => [0xCB, 0x8F]
  | .res_2_B => [0xCB, 0x90]
  | .res_2_C => [0xCB, 0x91]
  | .res_2_D => [0xCB, 0x92]
  | .res_2_E => [0xCB, 0x93]
  | .res_2_H => [0xCB, 0x94]
  | .res_2_L => [0xCB, 0x95]
  | .res_2_mHL => [0xCB, 0x96]
  | .res_2_A => [0xCB, 0x97]
  | .res_3_B => [0xCB, 0x98]
  | .res_3_C => [0xCB, 0x99]
  | .res_3_D => [0xCB, 0x9A]
  | .res_3_E => [0xCB, 0x9B]
  | .res_3_H => [0xCB, 0x9C]
  | .res_3_L => [0xCB, 0x9D]
  | .res_3_mHL => [0xCB, 0x9E]
  | .res_3_A => [0xCB, 0x9F]
  | .res_4_B => [0xCB, 0xA0]
  | .res_4_C => [0xCB, 0xA1]
  | .res_4_D => [0xCB, 0xA2]
  | .res_4_E => [0xCB, 0xA3]
  | .res_4_H => [0xCB, 0xA4]
  | .res_4_L => [0xCB, 0xA5]
  | .res_4_mHL => [0xCB, 0xA6]
  | .res_4_A => [0xCB, 0xA7]
  | .res_5_B => [0xCB, 0xA8]
  | .res_5_C => [0xCB, 0xA9]
  | .res_5_D => [0xCB, 0xAA]
  | .res_5_E => [0xCB, 0xAB]
  | .res_5_H => [0xCB, 0xAC]
  | .res_5_L => [0xCB, 0xAD]
  | .res_5_mHL => [0xCB, 0xAE]
  | .res_5_A => [0xCB, 0xAF]
  | .res_6_B => [0xCB, 0xB0]
  | .res_6_C => [0xCB, 0xB1]
  | .res_6_D => [0xCB, 0xB2]
  | .res_6_E => [0xCB, 0xB3]
  | .res_6_H => [0xCB, 0xB4]
  | .res_6_L => [0xCB, 0xB5]
  | .res_6_mHL => [0xCB, 0xB6]
  | .res_6_A => [0xCB, 0xB7]
  | .res_7_B => [0xCB, 0xB8]
  | .res_7_C => [0xCB, 0xB9]
  | .res_7_D => [0xCB, 0xBA]
  | .res_7_E => [0xCB, 0xBB]
  | .res_7_H => [0xCB, 0xBC]
  | .res_7_L => [0xCB, 0xBD]
  | .res_7_mHL => [0xCB, 0xBE]
  | .res_7_A => [0xCB, 0xBF]
  | .set_0_B => [0xCB, 0xC0]
  | .set_0_C => [0xCB, 0xC1]
  | .set_0_D => [0xCB, 0xC2]
  | .set_0_E => [0xCB, 0xC3]
  | .set_0_H => [0xCB, 0xC4]
  | .set_0_L => [0xCB, 0xC5]
  | .set_0_mHL => [0xCB, 0xC6]
  | .set_0_A => [0xCB, 0xC7]
  | .set_1_B => [0xCB, 0xC8]
  | .set_1_C => [0xCB, 0xC9]
  | .set_1_D => [0xCB, 0xCA]
  | .set_1_E => [0xCB, 0xCB]
  | .set_1_H => [0xCB, 0xCC]
  | .set_1_L => [0xCB, 0xCD]
  | .set_1_mHL => [0xCB, 0xCE]
  | .set_1_A => [0xCB, 0xCF]
  | .set_2_B => [0xCB, 0xD0]
  | .set_2_C => [0xCB, 0xD1]
  | .set_2_D => [0xCB, 0xD2]
  | .set_2_E => [0xCB, 0xD3]
  | .set_2_H => [0xCB, 0xD4]
  | .set_2_L => [0xCB, 0xD5]
  | .set_2_mHL => [0xCB, 0xD6]
  | .set_2_A => [0xCB, 0xD7]
  | .set_3_B => [0xCB, 0xD8]
  | .set_3_C => [0xCB, 0xD9]
  | .set_3_D => [0xCB, 0xDA]
  | .set_3_E => [0xCB, 0xDB]
  | .set_3_H => [0xCB, 0xDC]
  | .set_3_L => [0xCB, 0xDD]
  | .set_3_mHL => [0xCB, 0xDE]
  | .set_3_A => [0xCB, 0xDF]
  | .set_4_B => [0xCB, 0xE0]
  | .set_4_C => [0xCB, 0xE1]
  | .set_4_D => [0xCB, 0xE2]
  | .set_4_E => [0xCB, 0xE3]
  | .set_4_H => [0xCB, 0xE4]
  | .set_4_L => [0xCB, 0xE5]
  | .set_4_mHL => [0xCB, 0xE6]
  | .set_4_A => [0xCB, 0xE7]
  | .set_5_B => [0xCB, 0xE8]
  | .set_5_C => [0xCB, 0xE9]
  | .set_5_D => [0xCB, 0xEA]
  | .set_5_E => [0xCB, 0xEB]
  | .set_5_H => [0xCB, 0xEC]
  | .set_5_L => [0xCB, 0xED]
  | .set_5_mHL => [0xCB, 0xEE]
  | .set_5_A => [0xCB, 0xEF]
  | .set_6_B => [0xCB, 0xF0]
  | .set_6_C => [0xCB, 0xF1]
  | .set_6_D => [0xCB, 0xF2]
  | .set_6_E => [0xCB, 0xF3]
  | .set_6_H => [0xCB, 0xF4]
  | .set_6_L => [0xCB, 0xF5]
  | .set_6_mHL => [0xCB, 0xF6]
  | .set_6_A => [0xCB, 0xF7]
  | .set_7_B => [0xCB, 0xF8]
  | .set_7_C => [0xCB, 0xF9]
  | .set_7_D => [0xCB, 0xFA]
  | .set_7_E => [0xCB, 0xFB]
  | .set_7_H => [0xCB, 0xFC]
  | .set_7_L => [0xCB, 0xFD]
  | .set_7_mHL => [0xCB, 0xFE]
  | .set_7_A => [0xCB, 0xFF]

/-- The number of the spec's rule that gives the instruction its meaning (the `rule` field of
spec/opcode_table.json). -/
def Instr.rule (i : Instr) : Nat :=
  match i with
  | .nop => 410
  | .ld_BC_d16 _ => 349
  | .ld_mBC_A => 337
  | .inc_BC => 262
  | .inc_B => 233
  | .dec_B => 235
  | .ld_B_d8 _ => 331
  | .rlca => 284
  | .ld_ma16_SP _ => 350
  | .add_HL_BC => 261
  | .ld_A_mBC => 335
  | .dec_BC => 263
  | .inc_C => 233
  | .dec_C => 235
  | .ld_C_d8 _ => 331
  | .rrca => 285
  | .stop _ => 412
  | .ld_DE_d16 _ => 349
  | .ld_mDE_A => 338
  | .inc_DE => 262
  | .inc_D => 233
  | .dec_D => 235
  | .ld_D_d8 _ => 331
  | .rla => 286
  | .jr_e8 _ => 384
  | .add_HL_DE => 261
  | .ld_A_mDE => 336
  | .dec_DE => 263
  | .inc_E => 233
  | .dec_E => 235
  | .ld_E_d8 _ => 331
  | .rra => 287
  | .jr_NZ_e8 _ => 385
  | .ld_HL_d16 _ => 349
  | .ld_mHLI_A => 347
  | .inc_HL => 262
  | .inc_H => 233
  | .dec_H => 235
  | .ld_H_d8 _ => 331
  | .daa => 237
  | .jr_Z_e8 _ => 385
  | .add_HL_HL => 261
  | .ld_A_mHLI => 345
  | .dec_HL => 263
  | .inc_L => 233
  | .dec_L => 235
  | .ld_L_d8 _ => 331
  | .cpl => 238
  | .jr_NC_e8 _ => 385
  | .ld_SP_d16 _ => 349
  | .ld_mHLD_A => 348
  | .inc_SP => 262
  | .inc_mHL => 234
  | .dec_mHL => 236
  | .ld_mHL_d8 _ => 334
  | .scf => 239
  | .jr_C_e8 _ => 385
  | .add_HL_SP => 261
  | .ld_A_mHLD => 346
  | .dec_SP => 263
  | .inc_A => 233
  | .dec_A => 235
  | .ld_A_d8 _ => 331
  | .ccf => 240
  | .ld_B_B => 330
  | .ld_B_C => 330
  | .ld_B_D => 330
  | .ld_B_E => 330
  | .ld_B_H => 330
  | .ld_B_L => 330
  | .ld_B_mHL => 332
  | .ld_B_A => 330
  | .ld_C_B => 330
  | .ld_C_C => 330
  | .ld_C_D => 330
  | .ld_C_E => 330
  | .ld_C_H => 330
  | .ld_C_L => 330
  | .ld_C_mHL => 332
  | .ld_C_A => 330
  | .ld_D_B => 330
  | .ld_D_C => 330
  | .ld_D_D => 330
  | .ld_D_E => 330
  | .ld_D_H => 330
  | .ld_D_L => 330
  | .ld_D_mHL => 332
  | .ld_D_A => 330
  | .ld_E_B => 330
  | .ld_E_C => 330
  | .ld_E_D => 330
  | .ld_E_E => 330
  | .ld_E_H => 330
  | .ld_E_L => 330
  | .ld_E_mHL => 332
  | .ld_E_A => 330
  | .ld_H_B => 330
  | .ld_H_C => 330
  | .ld_H_D => 330
  | .ld_H_E => 330
  | .ld_H_H => 330
  | .ld_H_L => 330
  | .ld_H_mHL => 332
  | .ld_H_A => 330
  | .ld_L_B => 330
  | .ld_L_C => 330
  | .ld_L_D => 330
  | .ld_L_E => 330
  | .ld_L_H => 330
  | .ld_L_L => 330
  | .ld_L_mHL => 332
  | .ld_L_A => 330
  | .ld_mHL_B => 333
  | .ld_mHL_C => 333
  | .ld_mHL_D => 333
  | .ld_mHL_E => 333
  | .ld_mHL_H => 333
  | .ld_mHL_L => 333
  | .halt => 411
  | .ld_mHL_A => 333
  | .ld_A_B => 330
  | .ld_A_C => 330
  | .ld_A_D => 330
  | .ld_A_E => 330
  | .ld_A_H => 330
  | .ld_A_L => 330
  | .ld_A_mHL => 332
  | .ld_A_A => 330
  | .add_A_B => 207
  | .add_A_C => 207
  | .add_A_D => 207
  | .add_A_E => 207
  | .add_A_H => 207
  | .add_A_L => 207
  | .add_A_mHL => 208
  | .add_A_A => 207
  | .adc_A_B => 210
  | .adc_A_C => 210
  | .adc_A_D => 210
  | .adc_A_E => 210
  | .adc_A_H => 210
  | .adc_A_L => 210
  | .adc_A_mHL => 211
  | .adc_A_A => 210
  | .sub_B => 213
  | .sub_C => 213
  | .sub_D => 213
  | .sub_E => 213
  | .sub_H => 213
  | .sub_L => 213
  | .sub_mHL => 214
  | .sub_A => 213
  | .sbc_A_B => 216
  | .sbc_A_C => 216
  | .sbc_A_D => 216
  | .sbc_A_E => 216
  | .sbc_A_H => 216
  | .sbc_A_L => 216
  | .sbc_A_mHL => 217
  | .sbc_A_A => 216
  | .and_B => 219
  | .and_C => 219
  | .and_D => 219
  | .and_E => 219
  | .and_H => 219
  | .and_L => 219
  | .and_mHL => 220
  | .and_A => 219
  | .xor_B => 222
  | .xor_C => 222
  | .xor_D => 222
  | .xor_E => 222
  | .xor_H => 222
  | .xor_L => 222
  | .xor_mHL => 223
  | .xor_A => 222
  | .or_B => 225
  | .or_C => 225
  | .or_D => 225
  | .or_E => 225
  | .or_H => 225
  | .or_L => 225
  | .or_mHL => 226
  | .or_A => 225
  | .cp_B => 228
  | .cp_C => 228
  | .cp_D => 228
  | .cp_E => 228
  | .cp_H => 228
  | .cp_L => 228
  | .cp_mHL => 229
  | .cp_A => 228
  | .ret_NZ => 389
  | .pop_BC => 353
  | .jp_NZ_a16 _ => 382
  | .jp_a16 _ => 381
  | .call_NZ_a16 _ => 387
  | .push_BC => 352
  | .add_A_d8 _ => 209
  | .rst_00h => 391
  | .ret_Z => 389
  | .ret => 388
  | .jp_Z_a16 _ => 382
  | .prefix_CB _ => 415
  | .call_Z_a16 _ => 387
  | .call_a16 _ => 386
  | .adc_A_d8 _ => 212
  | .rst_08h => 391
  | .ret_NC => 389
  | .pop_DE => 353
  | .jp_NC_a16 _ => 382
  | .illegal _ => 420
  | .call_NC_a16 _ => 387
  | .push_DE => 352
  | .sub_d8 _ => 215
  | .rst_10h => 391
  | .ret_C => 389
  | .reti => 390
  | .jp_C_a16 _ => 382
  | .call_C_a16 _ => 387
  | .sbc_A_d8 _ => 218
  | .rst_18h => 391
  | .ldh_ma8_A _ => 344
  | .pop_HL => 353
  | .ldh_mC_A => 342
  | .push_HL => 352
  | .and_d8 _ => 221
  | .rst_20h => 391
  | .add_SP_e8 _ => 265
  | .jp_HL => 383
  | .ld_ma16_A _ => 340
  | .xor_d8 _ => 224
  | .rst_28h => 391
  | .ldh_A_ma8 _ => 343
  | .pop_AF => 354
  | .ldh_A_mC => 341
  | .di => 413
  | .push_AF => 352
  | .or_d8 _ => 227
  | .rst_30h => 391
  | .ld_HL_SPe8 _ => 266
  | .ld_SP_HL => 351
  | .ld_A_ma16 _ => 339
  | .ei => 414
  | .cp_d8 _ => 230
  | .rst_38h => 391
  | .rlc_B => 288
  | .rlc_C => 288
  | .rlc_D => 288
  | .rlc_E => 288
  | .rlc_H => 288
  | .rlc_L => 288
  | .rlc_mHL => 289
  | .rlc_A => 288
  | .rrc_B => 290
  | .rrc_C => 290
  | .rrc_D => 290
  | .rrc_E => 290
  | .rrc_H => 290
  | .rrc_L => 290
  | .rrc_mHL => 291
  | .rrc_A => 290
  | .rl_B => 292
  | .rl_C => 292
  | .rl_D => 292
  | .rl_E => 292
  | .rl_H => 292
  | .rl_L => 292
  | .rl_mHL => 293
  | .rl_A => 292
  | .rr_B => 294
  | .rr_C => 294
  | .rr_D => 294
  | .rr_E => 294
  | .rr_H => 294
  | .rr_L => 294
  | .rr_mHL => 295
  | .rr_A => 294
  | .sla_B => 296
  | .sla_C => 296
  | .sla_D => 296
  | .sla_E => 296
  | .sla_H => 296
  | .sla_L => 296
  | .sla_mHL => 297
  | .sla_A => 296
  | .sra_B => 298
  | .sra_C => 298
  | .sra_D => 298
  | .sra_E => 298
  | .sra_H => 298
  | .sra_L => 298
  | .sra_mHL => 299
  | .sra_A => 298
  | .swap_B => 300
  | .swap_C => 300
  | .swap_D => 300
  | .swap_E => 300
  | .swap_H => 300
  | .swap_L => 300
  | .swap_mHL => 301
  | .swap_A => 300
  | .srl_B => 302
  | .srl_C => 302
  | .srl_D => 302
  | .srl_E => 302
  | .srl_H => 302
  | .srl_L => 302
  | .srl_mHL => 303
  | .srl_A => 302
  | .bit_0_B => 304
  | .bit_0_C => 304
  | .bit_0_D => 304
  | .bit_0_E => 304
  | .bit_0_H => 304
  | .bit_0_L => 304
  | .bit_0_mHL => 305
  | .bit_0_A => 304
  | .bit_1_B => 304
  | .bit_1_C => 304
  | .bit_1_D => 304
  | .bit_1_E => 304
  | .bit_1_H => 304
  | .bit_1_L => 304
  | .bit_1_mHL => 305
  | .bit_1_A => 304
  | .bit_2_B => 304
  | .bit_2_C => 304
  | .bit_2_D => 304
  | .bit_2_E => 304
  | .bit_2_H => 304
  | .bit_2_L => 304
  | .bit_2_mHL => 305
  | .bit_2_A => 304
  | .bit_3_B => 304
  | .bit_3_C => 304
  | .bit_3_D => 304
  | .bit_3_E => 304
  | .bit_3_H => 304
  | .bit_3_L => 304
  | .bit_3_mHL => 305
  | .bit_3_A => 304
  | .bit_4_B => 304
  | .bit_4_C => 304
  | .bit_4_D => 304
  | .bit_4_E => 304
  | .bit_4_H => 304
  | .bit_4_L => 304
  | .bit_4_mHL => 305
  | .bit_4_A => 304
  | .bit_5_B => 304
  | .bit_5_C => 304
  | .bit_5_D => 304
  | .bit_5_E => 304
  | .bit_5_H => 304
  | .bit_5_L => 304
  | .bit_5_mHL => 305
  | .bit_5_A => 304
  | .bit_6_B => 304
  | .bit_6_C => 304
  | .bit_6_D => 304
  | .bit_6_E => 304
  | .bit_6_H => 304
  | .bit_6_L => 304
  | .bit_6_mHL => 305
  | .bit_6_A => 304
  | .bit_7_B => 304
  | .bit_7_C => 304
  | .bit_7_D => 304
  | .bit_7_E => 304
  | .bit_7_H => 304
  | .bit_7_L => 304
  | .bit_7_mHL => 305
  | .bit_7_A => 304
  | .res_0_B => 306
  | .res_0_C => 306
  | .res_0_D => 306
  | .res_0_E => 306
  | .res_0_H => 306
  | .res_0_L => 306
  | .res_0_mHL => 307
  | .res_0_A => 306
  | .res_1_B => 306
  | .res_1_C => 306
  | .res_1_D => 306
  | .res_1_E => 306
  | .res_1_H => 306
  | .res_1_L => 306
  | .res_1_mHL => 307
  | .res_1_A => 306
  | .res_2_B => 306
  | .res_2_C => 306
  | .res_2_D => 306
  | .res_2_E => 306
  | .res_2_H => 306
  | .res_2_L => 306
  | .res_2_mHL => 307
  | .res_2_A => 306
  | .res_3_B => 306
  | .res_3_C => 306
  | .res_3_D => 306
  | .res_3_E => 306
  | .res_3_H => 306
  | .res_3_L => 306
  | .res_3_mHL => 307
  | .res_3_A => 306
  | .res_4_B => 306
  | .res_4_C => 306
  | .res_4_D => 306
  | .res_4_E => 306
  | .res_4_H => 306
  | .res_4_L => 306
  | .res_4_mHL => 307
  | .res_4_A => 306
  | .res_5_B => 306
  | .res_5_C => 306
  | .res_5_D => 306
  | .res_5_E => 306
  | .res_5_H => 306
  | .res_5_L => 306
  | .res_5_mHL => 307
  | .res_5_A => 306
  | .res_6_B => 306
  | .res_6_C => 306
  | .res_6_D => 306
  | .res_6_E => 306
  | .res_6_H => 306
  | .res_6_L => 306
  | .res_6_mHL => 307
  | .res_6_A => 306
  | .res_7_B => 306
  | .res_7_C => 306
  | .res_7_D => 306
  | .res_7_E => 306
  | .res_7_H => 306
  | .res_7_L => 306
  | .res_7_mHL => 307
  | .res_7_A => 306
  | .set_0_B => 308
  | .set_0_C => 308
  | .set_0_D => 308
  | .set_0_E => 308
  | .set_0_H => 308
  | .set_0_L => 308
  | .set_0_mHL => 309
  | .set_0_A => 308
  | .set_1_B => 308
  | .set_1_C => 308
  | .set_1_D => 308
  | .set_1_E => 308
  | .set_1_H => 308
  | .set_1_L => 308
  | .set_1_mHL => 309
  | .set_1_A => 308
  | .set_2_B => 308
  | .set_2_C => 308
  | .set_2_D => 308
  | .set_2_E => 308
  | .set_2_H => 308
  | .set_2_L => 308
  | .set_2_mHL => 309
  | .set_2_A => 308
  | .set_3_B => 308
  | .set_3_C => 308
  | .set_3_D => 308
  | .set_3_E => 308
  | .set_3_H => 308
  | .set_3_L => 308
  | .set_3_mHL => 309
  | .set_3_A => 308
  | .set_4_B => 308
  | .set_4_C => 308
  | .set_4_D => 308
  | .set_4_E => 308
  | .set_4_H => 308
  | .set_4_L => 308
  | .set_4_mHL => 309
  | .set_4_A => 308
  | .set_5_B => 308
  | .set_5_C => 308
  | .set_5_D => 308
  | .set_5_E => 308
  | .set_5_H => 308
  | .set_5_L => 308
  | .set_5_mHL => 309
  | .set_5_A => 308
  | .set_6_B => 308
  | .set_6_C => 308
  | .set_6_D => 308
  | .set_6_E => 308
  | .set_6_H => 308
  | .set_6_L => 308
  | .set_6_mHL => 309
  | .set_6_A => 308
  | .set_7_B => 308
  | .set_7_C => 308
  | .set_7_D => 308
  | .set_7_E => 308
  | .set_7_H => 308
  | .set_7_L => 308
  | .set_7_mHL => 309
  | .set_7_A => 308

/-! ## The opcode table's own numbering -/

/-- The three bytes, in fetch order, that a word `w` of `nbits` bits of spec/opcode_table.json stands for,
zeros above. Bit 0 is the least significant bit of the first byte and the second byte is bits 15..8, but for
a CB row: "A CB row's apply to the 16-bit value (0xCB << 8) | second byte" (30_encoding.md, preamble), so a
16-bit word whose bits 15..8 are 0xCB is the prefix followed by its bits 7..0 (assumption log 3). -/
def tableBytes (nbits w : Nat) : Byte × Byte × Byte :=
  let v := w % 2 ^ nbits
  if nbits = 16 ∧ v / 256 = 0xCB then (0xCB, BitVec.ofNat 8 v, 0)
  else (BitVec.ofNat 8 v, BitVec.ofNat 8 (v / 256), BitVec.ofNat 8 (v / 65536))

/-- The instruction the decoder reads from the table's word `w` of `nbits` bits. -/
def decodeTableWord (nbits w : Nat) : Option Instr :=
  let b := tableBytes nbits w
  match decode [b.1, b.2.1, b.2.2] with
  | .ok (i, _) => some i
  | .error _ => none

end Sys2Proof
end

