-- ==== Sys2Proof/Config.lean ====
section
/-! DEFINITION. What is fixed for this hardware (00_scope.md R7) and the default of the one input
that the spec leaves to the environment (R8).
The spec leaves no value open, so there is no free value (93_implementation_defined.md section 1:
"Nothing else is left open"); the two open parameters ROM_IMAGE and IRQ are arguments, not constants:
see `Machine.powerOn` and `State.irqInput`. -/

namespace Sys2Proof.Config

/-- The number of bus bytes, 0x10000 (20_memory.md R80). -/
def busSize : Nat := 0x10000

/-- What a bus byte that nothing has written reads as: the bus is zero-filled at power-on
(70_reset_and_hazards.md R551, 10_state.md R49). -/
def unlistedByte : Byte := 0x00

/-- The reset value of PC (10_state.md R49). -/
def resetPc : Word := 0x0100

/-- The reset value of SP (10_state.md R49). -/
def resetSp : Word := 0xFFFE

/-- What `IRQ[4:0]` presents at a boundary for which the environment has supplied no sample: 0, the
document's configuration (00_scope.md R8, 92_eei_decisions.md D15). -/
def irqDefault : BitVec 5 := 0

end Sys2Proof.Config
end

