-- ==== Sys2Proof/Machine/State.lean ====
section
/-! DEFINITION. The machine's state as plain data (10_state.md R30, 20_memory.md R80), the reasons a step
can stop, and the state right after power-on reset (10_state.md R49, 70_reset_and_hazards.md R550, R551).
Beside the spec's record R30 and the bus R80, State holds the core's ports: the pending samples of the
input `IRQ[4:0]` (60_exceptions.md R503), the output `IRQ_ACK` (R505), the record of the fault
IllegalOpcode (R501), and the bus port's transactions of the last step (20_memory.md R98, R99). -/

namespace Sys2Proof.Machine

/-- The bus contents: the cells (address, byte) that differ from the zero fill, addresses strictly rising
(20_memory.md R80; the canonical form is `Memory.wf`). -/
abbrev Memory := List Host.Cell

/-- What the fault IllegalOpcode records: "the opcode byte and its address" (60_exceptions.md R501). -/
structure IllegalOpcode where
  opcode : Byte
  address : Word
deriving DecidableEq, Repr

/-- The `kind` of a bus transaction: "`fetch` for opcode and immediate bytes, `data` for everything else"
(20_memory.md R99). -/
inductive BusKind where
  | fetch | data
deriving DecidableEq, Repr

/-- One transaction of the bus port (20_memory.md R99). -/
inductive BusTxn where
  /-- A read of `addr` that returned `data`. -/
  | read (kind : BusKind) (addr : Word) (data : Byte)
  /-- A write of `data` at `addr`. -/
  | write (kind : BusKind) (addr : Word) (data : Byte)
deriving DecidableEq, Repr

/-- The machine's state. -/
structure State where
  /-- The accumulator A (R30, R31). -/
  a : Byte
  /-- The flag register F: Z, N, H, C in bits 7 to 4, bits 3 to 0 always zero (R39 to R41). -/
  f : Byte
  /-- The general registers (R30, R31). -/
  b : Byte
  c : Byte
  d : Byte
  e : Byte
  h : Byte
  l : Byte
  /-- The program counter (R33). -/
  pc : Word
  /-- The stack pointer (R35). -/
  sp : Word
  /-- IME, the interrupt master enable (R44). -/
  ime : Bool
  /-- ei_pending: EI takes effect after the next instruction (R45). -/
  eiPending : Bool
  /-- locked: the core executed an unassigned opcode and is stopped (R46). -/
  locked : Bool
  /-- The bus contents (20_memory.md R80). -/
  mem : Memory
  /-- The input IRQ[4:0]: its samples at the coming step boundaries, the next one first (60_exceptions.md
  R503; 00_scope.md R8: a function from the step index). Boundaries past the end sample
  `Config.irqDefault`. -/
  irqInput : List (BitVec 5)
  /-- The output IRQ_ACK: the line last acknowledged, none before the first entry (R505, R511). -/
  irqAck : Option (Fin 5)
  /-- The record of IllegalOpcode, none until it is raised (R501, 45_system.md R420). -/
  illegalOpcode : Option IllegalOpcode
  /-- The bus port's transactions of the last step, in order (20_memory.md R98, R99). -/
  bus : List BusTxn
deriving DecidableEq, Repr

/-- Why the machine stops. -/
inductive Fault where
  /-- Raised by `step` alone, at a state with `locked` set: the core is stopped and the fault IllegalOpcode
  that stopped it is reported, with its record (60_exceptions.md R501, R510; 45_system.md R421: "A model
  reports the state as faulted, never as final"). The record is none only in a state that no run reaches.
  Safe: the state does not change and nothing follows. -/
  | illegalOpcode (record : Option IllegalOpcode)
deriving DecidableEq, Repr

/-- Why something is given no meaning. -/
inductive Refusal where
  /-- Raised by an arm of `exec` whose instruction has no meaning yet; there is none. Safe. -/
  | notModelled (mnemonic : String)
  /-- Raised by the ROM loader alone: an image of more than 0x10000 bytes (70_reset_and_hazards.md R552: "A
  model refuses it"). Safe: no step raises it. -/
  | romImageTooLong (length : Nat)
deriving DecidableEq, Repr

/-- The outcome of a step or of an instruction. -/
abbrev Result := Host.Outcome State Fault Refusal

/-- The state at power-on reset, with no ROM image and no interrupt request (10_state.md R49,
70_reset_and_hazards.md R550, R551; 00_scope.md R8).
IRQ_ACK, the fault record and the port's last transactions are the model's output records; they are empty
before the first step (assumption log 4, DESIGN CHOICE). -/
def State.reset : State where
  a := 0x00
  f := 0x00
  b := 0x00
  c := 0x00
  d := 0x00
  e := 0x00
  h := 0x00
  l := 0x00
  pc := Config.resetPc
  sp := Config.resetSp
  ime := false
  eiPending := false
  locked := false
  mem := []
  irqInput := []
  irqAck := none
  illegalOpcode := none
  bus := []

end Sys2Proof.Machine
end

