-- ==== Sys2Proof/Machine/Ops.lean ====
section
/-! DEFINITION. The named operations over memory, the bus port, the program counter and the stack
(20_memory.md R82 to R85, 00_scope.md R14 and R15), taking an interrupt and returning from one
(60_exceptions.md R511, 44_control.md R390), and the one fault (45_system.md R420). -/

namespace Sys2Proof.Machine

/-! ## Memory as canonical data -/

/-- The cells from address `lo` on are in canonical form: addresses rise strictly, lie on the bus, and no
cell holds what an unlisted address reads as. -/
def Memory.wfFrom (lo : Nat) : Memory → Bool
  | [] => true
  | (k, v) :: m => decide (lo ≤ k) && decide (k < Config.busSize) && (v != Config.unlistedByte) && Memory.wfFrom (k + 1) m

/-- The canonical form of the bus contents. -/
def Memory.wf (m : Memory) : Bool := Memory.wfFrom 0 m

/-- The byte at an address; an unlisted one holds the zero fill (70_reset_and_hazards.md R551). -/
def Memory.read : Memory → Nat → Byte
  | [], _ => Config.unlistedByte
  | (k, v) :: m, a => if k = a then v else Memory.read m a

/-- The memory without the cell of address `a`. -/
def Memory.erase : Memory → Nat → Memory
  | [], _ => []
  | (k, v) :: m, a => if k = a then Memory.erase m a else (k, v) :: Memory.erase m a

/-- The memory with the cell `(a, v)` in its place. -/
def Memory.put : Memory → Nat → Byte → Memory
  | [], a, v => [(a, v)]
  | (k, w) :: m, a, v =>
    if a < k then (a, v) :: (k, w) :: m
    else if a = k then (a, v) :: m
    else (k, w) :: Memory.put m a v

/-- Store one byte, keeping the canonical form (20_memory.md R83). -/
def Memory.write (m : Memory) (a : Nat) (v : Byte) : Memory :=
  if v = Config.unlistedByte then m.erase a else m.put a v

/-- Store consecutive bytes from address `a` on (20_memory.md R83, one after the other). -/
def Memory.writeList : Memory → Nat → List Byte → Memory
  | m, _, [] => m
  | m, a, v :: vs => Memory.writeList (m.write a v) (a + 1) vs

/-! ## Access primitives and the bus port (20_memory.md R82 to R85, R98, R99) -/

/-- `MemRead(addr, 1)`: the byte stored at a bus address, with no side effect (R82, R90). -/
def State.readByte (s : State) (addr : Word) : Byte := s.mem.read addr.toNat

/-- `MemRead(addr, 2)`: little-endian, the high byte at `trunc16(addr + 1)` (R84). -/
def State.readWord (s : State) (addr : Word) : Word := mkWord (s.readByte (addr + 1)) (s.readByte addr)

/-- The port's record of a read transaction (R99). -/
def State.noteRead (kind : BusKind) (addr : Word) (s : State) : State :=
  { s with bus := s.bus ++ [.read kind addr (s.readByte addr)] }

/-- `MemRead(addr, 1)` as a data transaction: the byte, and the state with the transaction recorded. -/
def State.load8 (addr : Word) (s : State) : Byte × State := (s.readByte addr, s.noteRead .data addr)

/-- `MemRead(addr, 2)` as data transactions, the low-addressed byte first (R84, R98). -/
def State.load16 (addr : Word) (s : State) : Word × State :=
  (s.readWord addr, (s.noteRead .data addr).noteRead .data (addr + 1))

/-- `MemWrite(addr, 1, v)`: it changes that byte only (R83). -/
def State.store8 (addr : Word) (v : Byte) (s : State) : State :=
  { s with mem := s.mem.write addr.toNat v, bus := s.bus ++ [.write .data addr v] }

/-- `MemWrite(addr, 2, v)`: the low byte at `addr`, then the high byte at `trunc16(addr + 1)` (R85). -/
def State.store16 (addr : Word) (v : Word) (s : State) : State :=
  (s.store8 addr (lo8 v)).store8 (addr + 1) (hi8 v)

/-! ## Fetch and stack primitives (00_scope.md R15) -/

/-- `FetchByte()`: the byte at PC, and PC one further modulo 65536 (R15, 10_state.md R34). -/
def fetchByte (s : State) : Byte × State :=
  (s.readByte s.pc, { s.noteRead .fetch s.pc with pc := s.pc + 1 })

/-- `Push16(v)`: SP is decremented by 2, then the word is written at the new SP (R15, 10_state.md R35). -/
def push16 (v : Word) (s : State) : State :=
  State.store16 (s.sp - 2) v { s with sp := s.sp - 2 }

/-- `Pop16()`: the word at SP is read, then SP is incremented by 2 (R15, 10_state.md R35). -/
def pop16 (s : State) : Word × State :=
  let p := s.load16 s.sp
  (p.1, { p.2 with sp := p.2.sp + 2 })

/-! ## Interrupt entry and return (60_exceptions.md R503 to R511) -/

/-- The sample of `IRQ[4:0]` at this step's boundary (R503). -/
def State.irqSample (s : State) : BitVec 5 :=
  match s.irqInput with
  | [] => Config.irqDefault
  | irq :: _ => irq

/-- The lowest-numbered line that a sample requests, none when it requests none (R506). -/
def lowestLine (irq : BitVec 5) : Option (Fin 5) :=
  if irq.getLsbD 0 then some 0
  else if irq.getLsbD 1 then some 1
  else if irq.getLsbD 2 then some 2
  else if irq.getLsbD 3 then some 3
  else if irq.getLsbD 4 then some 4
  else none

/-- The line whose entry this boundary takes: one exactly when IME = 1 and IRQ ≠ 0 (R504, R510). -/
def acceptedLine (s : State) : Option (Fin 5) := if s.ime then lowestLine s.irqSample else none

/-- The interrupt vector `0x0040 + 8·n` of line n (R511). -/
def irqVector (n : Fin 5) : Word := 0x0040 + BitVec.ofNat 16 (8 * n.val)

/-- `enter_interrupt(n)`: the one exception entry of the core. IME and ei_pending are cleared, PC is pushed,
PC becomes the line's vector and the line is acknowledged; nothing else is saved or changed (R511). -/
def enterInterrupt (n : Fin 5) (s : State) : State :=
  let s1 := push16 s.pc { s with ime := false, eiPending := false }
  { s1 with pc := irqVector n, irqAck := some n }

/-- The return of RETI: PC is popped and IME is 1 at once; nothing else is restored (44_control.md R390,
60_exceptions.md R513). -/
def returnFromInterrupt (s : State) : State :=
  let p := pop16 s
  { p.2 with pc := p.1, ime := true }

/-- The EI delay at the start of a step that executes an instruction: a set ei_pending is cleared and IME is
set to 1 (60_exceptions.md R510, 10_state.md R45). -/
def promoteEi (s : State) : State :=
  if s.eiPending then { s with ime := true, eiPending := false } else s

/-! ## The fault -/

/-- `locked <- 1; raise IllegalOpcode(op, trunc16(PC - 1))`, PC being one past the opcode: no other state
changes (45_system.md R420, 60_exceptions.md R501). -/
def raiseIllegal (op : Byte) (s : State) : State :=
  { s with locked := true, illegalOpcode := some { opcode := op, address := s.pc - 1 } }

end Sys2Proof.Machine
end

