-- ==== Sys2Proof/Machine/Operands.lean ====
section
/-! DEFINITION. Every operand form: registers, register pairs (10_state.md R31, R36 to R38), the `r` field's
operand (30_encoding.md R126), the pair fields (R127), the pointers and the 0xFF00 page
(43_loads_stack.md section 1). -/

namespace Sys2Proof.Machine

/-! ## Registers and pairs -/

/-- Reading a register by name (00_scope.md R13). -/
def State.reg (r : Reg) (s : State) : Byte :=
  match r with
  | .B => s.b
  | .C => s.c
  | .D => s.d
  | .E => s.e
  | .H => s.h
  | .L => s.l
  | .A => s.a

/-- Writing a register by name: it changes that register, and with it the pair that contains it
(00_scope.md R13, 10_state.md R38). -/
def State.setReg (r : Reg) (v : Byte) (s : State) : State :=
  match r with
  | .B => { s with b := v }
  | .C => { s with c := v }
  | .D => { s with d := v }
  | .E => { s with e := v }
  | .H => { s with h := v }
  | .L => { s with l := v }
  | .A => { s with a := v }

/-- `AF = (A << 8) | F` (10_state.md R36). -/
def State.af (s : State) : Word := mkWord s.a s.f

/-- `BC = (B << 8) | C` (10_state.md R36). -/
def State.bc (s : State) : Word := mkWord s.b s.c

/-- `DE = (D << 8) | E` (10_state.md R36). -/
def State.de (s : State) : Word := mkWord s.d s.e

/-- `HL = (H << 8) | L` (10_state.md R36). -/
def State.hl (s : State) : Word := mkWord s.h s.l

/-- `AF <- v`: A takes the high byte, F the low byte with its low nibble zero (10_state.md R37, R41;
90_conflicts.md C1). -/
def State.setAF (v : Word) (s : State) : State := { s with a := hi8 v, f := lo8 v &&& 0xF0#8 }

/-- `BC <- v`, full bytes (10_state.md R37). -/
def State.setBC (v : Word) (s : State) : State := { s with b := hi8 v, c := lo8 v }

/-- `DE <- v`, full bytes (10_state.md R37). -/
def State.setDE (v : Word) (s : State) : State := { s with d := hi8 v, e := lo8 v }

/-- `HL <- v`, full bytes (10_state.md R37). -/
def State.setHL (v : Word) (s : State) : State := { s with h := hi8 v, l := lo8 v }

/-- `RP[p]` read (30_encoding.md R127). -/
def State.pair (p : Pair) (s : State) : Word :=
  match p with
  | .BC => s.bc
  | .DE => s.de
  | .HL => s.hl
  | .SP => s.sp

/-- `RP[p]` written (30_encoding.md R127). -/
def State.setPair (p : Pair) (v : Word) (s : State) : State :=
  match p with
  | .BC => s.setBC v
  | .DE => s.setDE v
  | .HL => s.setHL v
  | .SP => { s with sp := v }

/-- `RP2[p]` read (30_encoding.md R127). -/
def State.stackPair (p : StackPair) (s : State) : Word :=
  match p with
  | .BC => s.bc
  | .DE => s.de
  | .HL => s.hl
  | .AF => s.af

/-- `RP2[p]` written; AF through its setter (30_encoding.md R127). -/
def State.setStackPair (p : StackPair) (v : Word) (s : State) : State :=
  match p with
  | .BC => s.setBC v
  | .DE => s.setDE v
  | .HL => s.setHL v
  | .AF => s.setAF v

/-! ## The `r` field's operand (30_encoding.md R126) -/

/-- `R8[r]` read: a register, or the data read `MemRead(HL, 1)`. -/
def readOperand (o : Operand8) (s : State) : Byte × State :=
  match o with
  | .reg r => (s.reg r, s)
  | .mHL => s.load8 s.hl

/-- `R8[r] <- v`: a register, or the data write `MemWrite(HL, 1, v)`. -/
def writeOperand (o : Operand8) (v : Byte) (s : State) : State :=
  match o with
  | .reg r => s.setReg r v
  | .mHL => s.store8 s.hl v

/-- The value that reading `R8[r]` yields (30_encoding.md R126). -/
def operandValue (o : Operand8) (s : State) : Byte :=
  match o with
  | .reg r => s.reg r
  | .mHL => s.readByte s.hl

/-- The bus transactions of reading `R8[r]`: none for a register, one data read at HL for (HL)
(20_memory.md R88). -/
def operandReads (o : Operand8) (s : State) : List BusTxn :=
  match o with
  | .reg _ => []
  | .mHL => [.read .data s.hl (s.readByte s.hl)]

/-- The bus transactions of writing `v` to `R8[r]`: none for a register, one data write at HL for (HL)
(20_memory.md R88). -/
def operandWrites (o : Operand8) (v : Byte) (s : State) : List BusTxn :=
  match o with
  | .reg _ => []
  | .mHL => [.write .data s.hl v]

/-! ## Effective addresses (43_loads_stack.md section 1) -/

/-- `0xFF00 + zext_16(n)`: the page of the LDH forms (20_memory.md R81). -/
def highPage (n : Byte) : Word := 0xFF00 + zext16 n

/-- The effective address of a pointer: BC, DE, or HL before it is changed. -/
def pointerAddr (p : Pointer) (s : State) : Word :=
  match p with
  | .BC => s.bc
  | .DE => s.de
  | .HLI | .HLD => s.hl

/-- The post-modification of a pointer, after the access: HL one up or down modulo 65536 for (HL+) and
(HL-), none for BC and DE. -/
def pointerAfter (p : Pointer) (s : State) : State :=
  match p with
  | .BC | .DE => s
  | .HLI => s.setHL (s.hl + 1)
  | .HLD => s.setHL (s.hl - 1)

end Sys2Proof.Machine
end

