-- ==== Sys2Proof/Machine/Flags.lean ====
section
/-! DEFINITION. The flag register and every flag computation of the spec: the ALU helpers of 40_alu8.md
(R201 to R205, R231, R232, R237), of 41_alu16.md (R260, R264) and of 42_rotate_shift_bit.md (R280 to R282).
The ALU holds no state of its own (R200): a helper takes the operands and the old F, and returns the result
and the new F. Sums and differences are taken on unbounded integers and narrowed at the end (R10). -/

namespace Sys2Proof.Machine

/-! ## The flag bits of F (10_state.md R40) -/

/-- Bit `i` of F set to `b`, the other bits unchanged ("Writing F.x <- b changes only that bit of F"). -/
def putBit (i : Nat) (b : Bool) (f : Byte) : Byte :=
  if b then f ||| (1#8 <<< i) else f &&& ~~~(1#8 <<< i)

/-- `F.Z`, bit 7. -/
def flagZ (f : Byte) : Bool := f.getLsbD 7

/-- `F.N`, bit 6. -/
def flagN (f : Byte) : Bool := f.getLsbD 6

/-- `F.H`, bit 5. -/
def flagH (f : Byte) : Bool := f.getLsbD 5

/-- `F.C`, bit 4. -/
def flagC (f : Byte) : Bool := f.getLsbD 4

/-- `F.Z <- b`. -/
def setZ (b : Bool) (f : Byte) : Byte := putBit 7 b f

/-- `F.N <- b`. -/
def setN (b : Bool) (f : Byte) : Byte := putBit 6 b f

/-- `F.H <- b`. -/
def setH (b : Bool) (f : Byte) : Byte := putBit 5 b f

/-- `F.C <- b`. -/
def setC (b : Bool) (f : Byte) : Byte := putBit 4 b f

/-- The four flags written, the low nibble unchanged. -/
def setFlags (z n h c : Bool) (f : Byte) : Byte := setC c (setH h (setN n (setZ z f)))

/-- `cond(cc)` on the flags as they stand (30_encoding.md R128). -/
def cond (cc : Cond) (f : Byte) : Bool :=
  match cc with
  | .NZ => !flagZ f
  | .Z => flagZ f
  | .NC => !flagC f
  | .C => flagC f

/-! ## 8-bit arithmetic and logic -/

/-- `add8(a, v, cin)` (40_alu8.md R201). -/
def add8 (a v : Byte) (cin : Bool) (f : Byte) : Byte × Byte :=
  let s := a.toNat + v.toNat + cin.toNat
  let res := BitVec.ofNat 8 s
  (res, setFlags (res == 0) false (decide (a.toNat % 16 + v.toNat % 16 + cin.toNat > 0x0F)) (decide (s > 0xFF)) f)

/-- `sub8(a, v, cin)` (40_alu8.md R202, 90_conflicts.md C4). -/
def sub8 (a v : Byte) (cin : Bool) (f : Byte) : Byte × Byte :=
  let d : Int := (a.toNat : Int) - v.toNat - cin.toNat
  let res := BitVec.ofInt 8 d
  (res, setFlags (res == 0) true (decide (((a.toNat % 16 : Nat) : Int) - (v.toNat % 16 : Nat) - cin.toNat < 0)) (decide (d < 0)) f)

/-- `and8(a, v)` (40_alu8.md R203). -/
def and8 (a v f : Byte) : Byte × Byte := (a &&& v, setFlags (a &&& v == 0) false true false f)

/-- `or8(a, v)` (40_alu8.md R204). -/
def or8 (a v f : Byte) : Byte × Byte := (a ||| v, setFlags (a ||| v == 0) false false false f)

/-- `xor8(a, v)` (40_alu8.md R205). -/
def xor8 (a v f : Byte) : Byte × Byte := (a ^^^ v, setFlags (a ^^^ v == 0) false false false f)

/-- The ALU operation of a field value: the carry-in of ADC and SBC is F.C before any flag is written
(30_encoding.md R129, 40_alu8.md R201 to R205, R210, R216). -/
def aluResult (op : AluOp) (a v f : Byte) : Byte × Byte :=
  match op with
  | .add => add8 a v false f
  | .adc => add8 a v (flagC f) f
  | .sub => sub8 a v false f
  | .sbc => sub8 a v (flagC f) f
  | .and => and8 a v f
  | .xor => xor8 a v f
  | .or => or8 a v f
  | .cp => sub8 a v false f

/-- `inc8(v)`: F.C is not written (40_alu8.md R231). -/
def inc8 (v f : Byte) : Byte × Byte :=
  let res := v + 1
  (res, setH (v.toNat % 16 == 0x0F) (setN false (setZ (res == 0) f)))

/-- `dec8(v)`: F.C is not written (40_alu8.md R232). -/
def dec8 (v f : Byte) : Byte × Byte :=
  let res := v - 1
  (res, setH (v.toNat % 16 == 0x00) (setN true (setZ (res == 0) f)))

/-- DAA: the adjustment is accumulated from the flags and the old A, then added, or subtracted when N = 1;
F.N is not written (40_alu8.md R237). -/
def daa (a f : Byte) : Byte × Byte :=
  let low := flagH f || (!flagN f && decide (a.toNat % 16 > 0x09))
  let high := flagC f || (!flagN f && decide (a.toNat > 0x99))
  let corr : Byte := (if low then 0x06 else 0x00) ||| (if high then 0x60 else 0x00)
  let res := if flagN f then a - corr else a + corr
  (res, setC high (setH false (setZ (res == 0) f)))

/-- CPL: Z and C are not written (40_alu8.md R238). -/
def cpl (a f : Byte) : Byte × Byte := (~~~a, setH true (setN true f))

/-- SCF: Z is not written (40_alu8.md R239). -/
def scf (f : Byte) : Byte := setC true (setH false (setN false f))

/-- CCF: Z is not written (40_alu8.md R240). -/
def ccf (f : Byte) : Byte := setC (!flagC f) (setH false (setN false f))

/-! ## 16-bit arithmetic -/

/-- `add16(h, v)`: F.Z is not written (41_alu16.md R260). -/
def add16 (h v : Word) (f : Byte) : Word × Byte :=
  let s := h.toNat + v.toNat
  (BitVec.ofNat 16 s, setC (decide (s > 0xFFFF)) (setH (decide (h.toNat % 0x1000 + v.toNat % 0x1000 > 0x0FFF)) (setN false f)))

/-- `addsp(n)`: H and C from the unsigned addition of n to SP's low byte, Z and N cleared (41_alu16.md
R264). -/
def addsp (sp : Word) (n f : Byte) : Word × Byte :=
  (sp + sext16 n,
    setFlags false false (decide (sp.toNat % 16 + n.toNat % 16 > 0x0F)) (decide (sp.toNat % 0x100 + n.toNat > 0xFF)) f)

/-! ## Rotates and shifts -/

/-- The rotate and shift functions, with the carry-in that RL and RR take: the result and the bit that goes
to C (42_rotate_shift_bit.md R280). -/
def rotate (op : RotOp) (v : Byte) (cin : Bool) : Byte × Bool :=
  match op with
  | .rlc => ((v <<< 1) ||| (BitVec.ofBool (v.getLsbD 7)).setWidth 8, v.getLsbD 7)
  | .rrc => ((v >>> 1) ||| ((BitVec.ofBool (v.getLsbD 0)).setWidth 8 <<< 7), v.getLsbD 0)
  | .rl => ((v <<< 1) ||| (BitVec.ofBool cin).setWidth 8, v.getLsbD 7)
  | .rr => ((v >>> 1) ||| ((BitVec.ofBool cin).setWidth 8 <<< 7), v.getLsbD 0)
  | .sla => (v <<< 1, v.getLsbD 7)
  | .sra => ((v >>> 1) ||| (v &&& 0x80), v.getLsbD 0)
  | .swap => (((v &&& 0x0F) <<< 4) ||| (v >>> 4), false)
  | .srl => (v >>> 1, v.getLsbD 0)

/-- `cbflags(res, out)` (42_rotate_shift_bit.md R281). -/
def cbflags (res : Byte) (out : Bool) (f : Byte) : Byte := setFlags (res == 0) false false out f

/-- `aflags(out)`: Z is cleared whatever the result (42_rotate_shift_bit.md R282). -/
def aflags (out : Bool) (f : Byte) : Byte := setFlags false false false out f

/-- The flag write of BIT: F.C is not written (42_rotate_shift_bit.md R304, R305). -/
def bitFlags (set : Bool) (f : Byte) : Byte := setH true (setN false (setZ (!set) f))

end Sys2Proof.Machine
end

