-- ==== Sys2Proof/Machine/Alu16.lean ====
section
/-! DEFINITION. The meanings of the 16-bit arithmetic instructions (41_alu16.md): ADD HL,rr, INC rr, DEC rr,
ADD SP,e8 and LD HL,SP+e8. PC is already past the instruction's bytes (00_scope.md R17). -/

namespace Sys2Proof.Machine

/-! ## Shared operations -/

/-- `HL <- add16(HL, RP[p])` (41_alu16.md R261). -/
def addHL (p : Pair) (s : State) : State :=
  let r := add16 s.hl (s.pair p) s.f
  { s.setHL r.1 with f := r.2 }

/-- `RP[p] <- trunc16(RP[p] + 1)`, no flag (41_alu16.md R262). -/
def incPair (p : Pair) (s : State) : State := s.setPair p (s.pair p + 1)

/-- `RP[p] <- trunc16(RP[p] - 1)`, no flag (41_alu16.md R263). -/
def decPair (p : Pair) (s : State) : State := s.setPair p (s.pair p - 1)

/-- `SP <- addsp(n)` (41_alu16.md R265). -/
def addSP (n : Byte) (s : State) : State :=
  let r := addsp s.sp n s.f
  { s with sp := r.1, f := r.2 }

/-- `HL <- addsp(n)`, SP unchanged (41_alu16.md R266). -/
def loadHLFromSP (n : Byte) (s : State) : State :=
  let r := addsp s.sp n s.f
  { s.setHL r.1 with f := r.2 }

/-! ## One meaning per instruction -/

/-- INC BC (R262). -/
def execInc_BC (s : State) : Result := .next (incPair .BC s)

/-- ADD HL,BC (R261). -/
def execAdd_HL_BC (s : State) : Result := .next (addHL .BC s)

/-- DEC BC (R263). -/
def execDec_BC (s : State) : Result := .next (decPair .BC s)

/-- INC DE (R262). -/
def execInc_DE (s : State) : Result := .next (incPair .DE s)

/-- ADD HL,DE (R261). -/
def execAdd_HL_DE (s : State) : Result := .next (addHL .DE s)

/-- DEC DE (R263). -/
def execDec_DE (s : State) : Result := .next (decPair .DE s)

/-- INC HL (R262). -/
def execInc_HL (s : State) : Result := .next (incPair .HL s)

/-- ADD HL,HL (R261). -/
def execAdd_HL_HL (s : State) : Result := .next (addHL .HL s)

/-- DEC HL (R263). -/
def execDec_HL (s : State) : Result := .next (decPair .HL s)

/-- INC SP (R262). -/
def execInc_SP (s : State) : Result := .next (incPair .SP s)

/-- ADD HL,SP (R261). -/
def execAdd_HL_SP (s : State) : Result := .next (addHL .SP s)

/-- DEC SP (R263). -/
def execDec_SP (s : State) : Result := .next (decPair .SP s)

/-- ADD SP,e8 (R265). -/
def execAdd_SP_e8 (e : Byte) (s : State) : Result := .next (addSP e s)

/-- LD HL,SP+e8 (R266). -/
def execLd_HL_SPe8 (e : Byte) (s : State) : Result := .next (loadHLFromSP e s)

end Sys2Proof.Machine
end

