-- ==== Sys2Proof/Machine/Alu8.lean ====
section
/-! DEFINITION. The meanings of the 8-bit arithmetic and logic instructions (40_alu8.md): ADD, ADC, SUB, SBC,
AND, XOR, OR and CP in their r, (HL) and d8 forms, INC and DEC of r and (HL), DAA, CPL, SCF and CCF.
PC is already past the instruction's bytes (00_scope.md R17). No instruction here raises an exception. -/

namespace Sys2Proof.Machine

/-! ## Shared operations -/

/-- A and F written with a result and its flags. -/
def writeAF8 (r : Byte × Byte) (s : State) : State := { s with a := r.1, f := r.2 }

/-- `A <- op8(A, v)` with its flags; CP keeps A and only writes the flags (40_alu8.md R200, R207 to R230). -/
def aluA (op : AluOp) (v : Byte) (s : State) : State :=
  let r := aluResult op s.a v s.f
  { s with a := if op = .cp then s.a else r.1, f := r.2 }

/-- The r and (HL) forms: the operand is read once, before the helper runs (40_alu8.md R206). -/
def aluOperand (op : AluOp) (o : Operand8) (s : State) : State :=
  let p := readOperand o s
  aluA op p.1 p.2

/-- `R8[r] <- inc8(R8[r])`; on (HL) a read, then a write of the same byte (40_alu8.md R233, R234). -/
def incOperand (o : Operand8) (s : State) : State :=
  let p := readOperand o s
  let r := inc8 p.1 s.f
  writeOperand o r.1 { p.2 with f := r.2 }

/-- `R8[r] <- dec8(R8[r])`; on (HL) a read, then a write of the same byte (40_alu8.md R235, R236). -/
def decOperand (o : Operand8) (s : State) : State :=
  let p := readOperand o s
  let r := dec8 p.1 s.f
  writeOperand o r.1 { p.2 with f := r.2 }

/-! ## One meaning per instruction -/

/-- INC B (R233). -/
def execInc_B (s : State) : Result := .next (incOperand (.reg .B) s)

/-- DEC B (R235). -/
def execDec_B (s : State) : Result := .next (decOperand (.reg .B) s)

/-- INC C (R233). -/
def execInc_C (s : State) : Result := .next (incOperand (.reg .C) s)

/-- DEC C (R235). -/
def execDec_C (s : State) : Result := .next (decOperand (.reg .C) s)

/-- INC D (R233). -/
def execInc_D (s : State) : Result := .next (incOperand (.reg .D) s)

/-- DEC D (R235). -/
def execDec_D (s : State) : Result := .next (decOperand (.reg .D) s)

/-- INC E (R233). -/
def execInc_E (s : State) : Result := .next (incOperand (.reg .E) s)

/-- DEC E (R235). -/
def execDec_E (s : State) : Result := .next (decOperand (.reg .E) s)

/-- INC H (R233). -/
def execInc_H (s : State) : Result := .next (incOperand (.reg .H) s)

/-- DEC H (R235). -/
def execDec_H (s : State) : Result := .next (decOperand (.reg .H) s)

/-- DAA (R237). -/
def execDaa (s : State) : Result := .next (writeAF8 (daa s.a s.f) s)

/-- INC L (R233). -/
def execInc_L (s : State) : Result := .next (incOperand (.reg .L) s)

/-- DEC L (R235). -/
def execDec_L (s : State) : Result := .next (decOperand (.reg .L) s)

/-- CPL (R238). -/
def execCpl (s : State) : Result := .next (writeAF8 (cpl s.a s.f) s)

/-- INC (HL) (R234). -/
def execInc_mHL (s : State) : Result := .next (incOperand .mHL s)

/-- DEC (HL) (R236). -/
def execDec_mHL (s : State) : Result := .next (decOperand .mHL s)

/-- SCF (R239). -/
def execScf (s : State) : Result := .next { s with f := scf s.f }

/-- INC A (R233). -/
def execInc_A (s : State) : Result := .next (incOperand (.reg .A) s)

/-- DEC A (R235). -/
def execDec_A (s : State) : Result := .next (decOperand (.reg .A) s)

/-- CCF (R240). -/
def execCcf (s : State) : Result := .next { s with f := ccf s.f }

/-- ADD A,B (R207). -/
def execAdd_A_B (s : State) : Result := .next (aluOperand .add (.reg .B) s)

/-- ADD A,C (R207). -/
def execAdd_A_C (s : State) : Result := .next (aluOperand .add (.reg .C) s)

/-- ADD A,D (R207). -/
def execAdd_A_D (s : State) : Result := .next (aluOperand .add (.reg .D) s)

/-- ADD A,E (R207). -/
def execAdd_A_E (s : State) : Result := .next (aluOperand .add (.reg .E) s)

/-- ADD A,H (R207). -/
def execAdd_A_H (s : State) : Result := .next (aluOperand .add (.reg .H) s)

/-- ADD A,L (R207). -/
def execAdd_A_L (s : State) : Result := .next (aluOperand .add (.reg .L) s)

/-- ADD A,(HL) (R208). -/
def execAdd_A_mHL (s : State) : Result := .next (aluOperand .add .mHL s)

/-- ADD A,A (R207). -/
def execAdd_A_A (s : State) : Result := .next (aluOperand .add (.reg .A) s)

/-- ADC A,B (R210). -/
def execAdc_A_B (s : State) : Result := .next (aluOperand .adc (.reg .B) s)

/-- ADC A,C (R210). -/
def execAdc_A_C (s : State) : Result := .next (aluOperand .adc (.reg .C) s)

/-- ADC A,D (R210). -/
def execAdc_A_D (s : State) : Result := .next (aluOperand .adc (.reg .D) s)

/-- ADC A,E (R210). -/
def execAdc_A_E (s : State) : Result := .next (aluOperand .adc (.reg .E) s)

/-- ADC A,H (R210). -/
def execAdc_A_H (s : State) : Result := .next (aluOperand .adc (.reg .H) s)

/-- ADC A,L (R210). -/
def execAdc_A_L (s : State) : Result := .next (aluOperand .adc (.reg .L) s)

/-- ADC A,(HL) (R211). -/
def execAdc_A_mHL (s : State) : Result := .next (aluOperand .adc .mHL s)

/-- ADC A,A (R210). -/
def execAdc_A_A (s : State) : Result := .next (aluOperand .adc (.reg .A) s)

/-- SUB B (R213). -/
def execSub_B (s : State) : Result := .next (aluOperand .sub (.reg .B) s)

/-- SUB C (R213). -/
def execSub_C (s : State) : Result := .next (aluOperand .sub (.reg .C) s)

/-- SUB D (R213). -/
def execSub_D (s : State) : Result := .next (aluOperand .sub (.reg .D) s)

/-- SUB E (R213). -/
def execSub_E (s : State) : Result := .next (aluOperand .sub (.reg .E) s)

/-- SUB H (R213). -/
def execSub_H (s : State) : Result := .next (aluOperand .sub (.reg .H) s)

/-- SUB L (R213). -/
def execSub_L (s : State) : Result := .next (aluOperand .sub (.reg .L) s)

/-- SUB (HL) (R214). -/
def execSub_mHL (s : State) : Result := .next (aluOperand .sub .mHL s)

/-- SUB A (R213). -/
def execSub_A (s : State) : Result := .next (aluOperand .sub (.reg .A) s)

/-- SBC A,B (R216). -/
def execSbc_A_B (s : State) : Result := .next (aluOperand .sbc (.reg .B) s)

/-- SBC A,C (R216). -/
def execSbc_A_C (s : State) : Result := .next (aluOperand .sbc (.reg .C) s)

/-- SBC A,D (R216). -/
def execSbc_A_D (s : State) : Result := .next (aluOperand .sbc (.reg .D) s)

/-- SBC A,E (R216). -/
def execSbc_A_E (s : State) : Result := .next (aluOperand .sbc (.reg .E) s)

/-- SBC A,H (R216). -/
def execSbc_A_H (s : State) : Result := .next (aluOperand .sbc (.reg .H) s)

/-- SBC A,L (R216). -/
def execSbc_A_L (s : State) : Result := .next (aluOperand .sbc (.reg .L) s)

/-- SBC A,(HL) (R217). -/
def execSbc_A_mHL (s : State) : Result := .next (aluOperand .sbc .mHL s)

/-- SBC A,A (R216). -/
def execSbc_A_A (s : State) : Result := .next (aluOperand .sbc (.reg .A) s)

/-- AND B (R219). -/
def execAnd_B (s : State) : Result := .next (aluOperand .and (.reg .B) s)

/-- AND C (R219). -/
def execAnd_C (s : State) : Result := .next (aluOperand .and (.reg .C) s)

/-- AND D (R219). -/
def execAnd_D (s : State) : Result := .next (aluOperand .and (.reg .D) s)

/-- AND E (R219). -/
def execAnd_E (s : State) : Result := .next (aluOperand .and (.reg .E) s)

/-- AND H (R219). -/
def execAnd_H (s : State) : Result := .next (aluOperand .and (.reg .H) s)

/-- AND L (R219). -/
def execAnd_L (s : State) : Result := .next (aluOperand .and (.reg .L) s)

/-- AND (HL) (R220). -/
def execAnd_mHL (s : State) : Result := .next (aluOperand .and .mHL s)

/-- AND A (R219). -/
def execAnd_A (s : State) : Result := .next (aluOperand .and (.reg .A) s)

/-- XOR B (R222). -/
def execXor_B (s : State) : Result := .next (aluOperand .xor (.reg .B) s)

/-- XOR C (R222). -/
def execXor_C (s : State) : Result := .next (aluOperand .xor (.reg .C) s)

/-- XOR D (R222). -/
def execXor_D (s : State) : Result := .next (aluOperand .xor (.reg .D) s)

/-- XOR E (R222). -/
def execXor_E (s : State) : Result := .next (aluOperand .xor (.reg .E) s)

/-- XOR H (R222). -/
def execXor_H (s : State) : Result := .next (aluOperand .xor (.reg .H) s)

/-- XOR L (R222). -/
def execXor_L (s : State) : Result := .next (aluOperand .xor (.reg .L) s)

/-- XOR (HL) (R223). -/
def execXor_mHL (s : State) : Result := .next (aluOperand .xor .mHL s)

/-- XOR A (R222). -/
def execXor_A (s : State) : Result := .next (aluOperand .xor (.reg .A) s)

/-- OR B (R225). -/
def execOr_B (s : State) : Result := .next (aluOperand .or (.reg .B) s)

/-- OR C (R225). -/
def execOr_C (s : State) : Result := .next (aluOperand .or (.reg .C) s)

/-- OR D (R225). -/
def execOr_D (s : State) : Result := .next (aluOperand .or (.reg .D) s)

/-- OR E (R225). -/
def execOr_E (s : State) : Result := .next (aluOperand .or (.reg .E) s)

/-- OR H (R225). -/
def execOr_H (s : State) : Result := .next (aluOperand .or (.reg .H) s)

/-- OR L (R225). -/
def execOr_L (s : State) : Result := .next (aluOperand .or (.reg .L) s)

/-- OR (HL) (R226). -/
def execOr_mHL (s : State) : Result := .next (aluOperand .or .mHL s)

/-- OR A (R225). -/
def execOr_A (s : State) : Result := .next (aluOperand .or (.reg .A) s)

/-- CP B (R228). -/
def execCp_B (s : State) : Result := .next (aluOperand .cp (.reg .B) s)

/-- CP C (R228). -/
def execCp_C (s : State) : Result := .next (aluOperand .cp (.reg .C) s)

/-- CP D (R228). -/
def execCp_D (s : State) : Result := .next (aluOperand .cp (.reg .D) s)

/-- CP E (R228). -/
def execCp_E (s : State) : Result := .next (aluOperand .cp (.reg .E) s)

/-- CP H (R228). -/
def execCp_H (s : State) : Result := .next (aluOperand .cp (.reg .H) s)

/-- CP L (R228). -/
def execCp_L (s : State) : Result := .next (aluOperand .cp (.reg .L) s)

/-- CP (HL) (R229). -/
def execCp_mHL (s : State) : Result := .next (aluOperand .cp .mHL s)

/-- CP A (R228). -/
def execCp_A (s : State) : Result := .next (aluOperand .cp (.reg .A) s)

/-- ADD A,d8 (R209). -/
def execAdd_A_d8 (d : Byte) (s : State) : Result := .next (aluA .add d s)

/-- ADC A,d8 (R212). -/
def execAdc_A_d8 (d : Byte) (s : State) : Result := .next (aluA .adc d s)

/-- SUB d8 (R215). -/
def execSub_d8 (d : Byte) (s : State) : Result := .next (aluA .sub d s)

/-- SBC A,d8 (R218). -/
def execSbc_A_d8 (d : Byte) (s : State) : Result := .next (aluA .sbc d s)

/-- AND d8 (R221). -/
def execAnd_d8 (d : Byte) (s : State) : Result := .next (aluA .and d s)

/-- XOR d8 (R224). -/
def execXor_d8 (d : Byte) (s : State) : Result := .next (aluA .xor d s)

/-- OR d8 (R227). -/
def execOr_d8 (d : Byte) (s : State) : Result := .next (aluA .or d s)

/-- CP d8 (R230). -/
def execCp_d8 (d : Byte) (s : State) : Result := .next (aluA .cp d s)

end Sys2Proof.Machine
end

