-- ==== Sys2Proof/Machine/Control.lean ====
section
/-! DEFINITION. The meanings of the control transfers (44_control.md). Every immediate has been fetched whether or
not the transfer is taken, so PC is the address of the byte after the instruction (R380, 00_scope.md R17).
None writes a flag, and only RETI writes IME. -/

namespace Sys2Proof.Machine

/-! ## Shared operations -/

/-- `if taken: PC <- target` (44_control.md R380 to R385). -/
def jump (taken : Bool) (target : Word) (s : State) : State := if taken then { s with pc := target } else s

/-- `if taken: Push16(PC); PC <- target` (44_control.md R386, R387, R391). -/
def call (taken : Bool) (target : Word) (s : State) : State :=
  if taken then { push16 s.pc s with pc := target } else s

/-- `if taken: PC <- Pop16()` (44_control.md R388, R389). -/
def ret (taken : Bool) (s : State) : State :=
  if taken then
    let p := pop16 s
    { p.2 with pc := p.1 }
  else s

/-! ## One meaning per instruction -/

/-- JR e8 (R384). -/
def execJr_e8 (e : Byte) (s : State) : Result := .next (jump true (s.pc + sext16 e) s)

/-- JR NZ,e8 (R385). -/
def execJr_NZ_e8 (e : Byte) (s : State) : Result := .next (jump (cond .NZ s.f) (s.pc + sext16 e) s)

/-- JR Z,e8 (R385). -/
def execJr_Z_e8 (e : Byte) (s : State) : Result := .next (jump (cond .Z s.f) (s.pc + sext16 e) s)

/-- JR NC,e8 (R385). -/
def execJr_NC_e8 (e : Byte) (s : State) : Result := .next (jump (cond .NC s.f) (s.pc + sext16 e) s)

/-- JR C,e8 (R385). -/
def execJr_C_e8 (e : Byte) (s : State) : Result := .next (jump (cond .C s.f) (s.pc + sext16 e) s)

/-- RET NZ (R389). -/
def execRet_NZ (s : State) : Result := .next (ret (cond .NZ s.f) s)

/-- JP NZ,a16 (R382). -/
def execJp_NZ_a16 (w : Word) (s : State) : Result := .next (jump (cond .NZ s.f) w s)

/-- JP a16 (R381). -/
def execJp_a16 (w : Word) (s : State) : Result := .next (jump true w s)

/-- CALL NZ,a16 (R387). -/
def execCall_NZ_a16 (w : Word) (s : State) : Result := .next (call (cond .NZ s.f) w s)

/-- RST 00h (R391). -/
def execRst_00h (s : State) : Result := .next (call true 0x0000 s)

/-- RET Z (R389). -/
def execRet_Z (s : State) : Result := .next (ret (cond .Z s.f) s)

/-- RET (R388). -/
def execRet (s : State) : Result := .next (ret true s)

/-- JP Z,a16 (R382). -/
def execJp_Z_a16 (w : Word) (s : State) : Result := .next (jump (cond .Z s.f) w s)

/-- CALL Z,a16 (R387). -/
def execCall_Z_a16 (w : Word) (s : State) : Result := .next (call (cond .Z s.f) w s)

/-- CALL a16 (R386). -/
def execCall_a16 (w : Word) (s : State) : Result := .next (call true w s)

/-- RST 08h (R391). -/
def execRst_08h (s : State) : Result := .next (call true 0x0008 s)

/-- RET NC (R389). -/
def execRet_NC (s : State) : Result := .next (ret (cond .NC s.f) s)

/-- JP NC,a16 (R382). -/
def execJp_NC_a16 (w : Word) (s : State) : Result := .next (jump (cond .NC s.f) w s)

/-- CALL NC,a16 (R387). -/
def execCall_NC_a16 (w : Word) (s : State) : Result := .next (call (cond .NC s.f) w s)

/-- RST 10h (R391). -/
def execRst_10h (s : State) : Result := .next (call true 0x0010 s)

/-- RET C (R389). -/
def execRet_C (s : State) : Result := .next (ret (cond .C s.f) s)

/-- RETI (R390). -/
def execReti (s : State) : Result := .next (returnFromInterrupt s)

/-- JP C,a16 (R382). -/
def execJp_C_a16 (w : Word) (s : State) : Result := .next (jump (cond .C s.f) w s)

/-- CALL C,a16 (R387). -/
def execCall_C_a16 (w : Word) (s : State) : Result := .next (call (cond .C s.f) w s)

/-- RST 18h (R391). -/
def execRst_18h (s : State) : Result := .next (call true 0x0018 s)

/-- RST 20h (R391). -/
def execRst_20h (s : State) : Result := .next (call true 0x0020 s)

/-- JP HL (R383). -/
def execJp_HL (s : State) : Result := .next (jump true s.hl s)

/-- RST 28h (R391). -/
def execRst_28h (s : State) : Result := .next (call true 0x0028 s)

/-- RST 30h (R391). -/
def execRst_30h (s : State) : Result := .next (call true 0x0030 s)

/-- RST 38h (R391). -/
def execRst_38h (s : State) : Result := .next (call true 0x0038 s)

end Sys2Proof.Machine
end

