-- ==== Sys2Proof/Machine/Loads.lean ====
section
/-! DEFINITION. The meanings of the loads and stores (43_loads_stack.md sections 2 to 6). None writes a flag or
raises an exception. PC is already past the instruction's bytes (00_scope.md R17). -/

namespace Sys2Proof.Machine

/-! ## Shared operations -/

/-- `R8[y] <- R8[z]`: the source is read first, at the old HL; the degenerate `LD r,r` writes a register with
its own value (43_loads_stack.md R330, R332, R333). -/
def moveOperand (dst src : Operand8) (s : State) : State :=
  let p := readOperand src s
  writeOperand dst p.1 p.2

/-- `A <- MemRead(a, 1)` (43_loads_stack.md R335, R336, R339, R341, R343). -/
def loadA (addr : Word) (s : State) : State :=
  let p := s.load8 addr
  { p.2 with a := p.1 }

/-- `MemWrite(a, 1, A)` (43_loads_stack.md R337, R338, R340, R342, R344). -/
def storeA (addr : Word) (s : State) : State := s.store8 addr s.a

/-- LD A,(BC), LD A,(DE), LD A,(HL+), LD A,(HL-): the access at the old pointer, then the post-modification
(43_loads_stack.md R335, R336, R345, R346). -/
def loadAPointer (p : Pointer) (s : State) : State := pointerAfter p (loadA (pointerAddr p s) s)

/-- LD (BC),A, LD (DE),A, LD (HL+),A, LD (HL-),A: the access at the old pointer, then the post-modification
(43_loads_stack.md R337, R338, R347, R348). -/
def storeAPointer (p : Pointer) (s : State) : State := pointerAfter p (storeA (pointerAddr p s) s)

/-! ## One meaning per instruction -/

/-- LD BC,d16 (R349). -/
def execLd_BC_d16 (w : Word) (s : State) : Result := .next (s.setPair .BC w)

/-- LD (BC),A (R337). -/
def execLd_mBC_A (s : State) : Result := .next (storeAPointer .BC s)

/-- LD B,d8 (R331). -/
def execLd_B_d8 (d : Byte) (s : State) : Result := .next (writeOperand (.reg .B) d s)

/-- LD (a16),SP (R350). -/
def execLd_ma16_SP (w : Word) (s : State) : Result := .next (s.store16 w s.sp)

/-- LD A,(BC) (R335). -/
def execLd_A_mBC (s : State) : Result := .next (loadAPointer .BC s)

/-- LD C,d8 (R331). -/
def execLd_C_d8 (d : Byte) (s : State) : Result := .next (writeOperand (.reg .C) d s)

/-- LD DE,d16 (R349). -/
def execLd_DE_d16 (w : Word) (s : State) : Result := .next (s.setPair .DE w)

/-- LD (DE),A (R338). -/
def execLd_mDE_A (s : State) : Result := .next (storeAPointer .DE s)

/-- LD D,d8 (R331). -/
def execLd_D_d8 (d : Byte) (s : State) : Result := .next (writeOperand (.reg .D) d s)

/-- LD A,(DE) (R336). -/
def execLd_A_mDE (s : State) : Result := .next (loadAPointer .DE s)

/-- LD E,d8 (R331). -/
def execLd_E_d8 (d : Byte) (s : State) : Result := .next (writeOperand (.reg .E) d s)

/-- LD HL,d16 (R349). -/
def execLd_HL_d16 (w : Word) (s : State) : Result := .next (s.setPair .HL w)

/-- LD (HL+),A (R347). -/
def execLd_mHLI_A (s : State) : Result := .next (storeAPointer .HLI s)

/-- LD H,d8 (R331). -/
def execLd_H_d8 (d : Byte) (s : State) : Result := .next (writeOperand (.reg .H) d s)

/-- LD A,(HL+) (R345). -/
def execLd_A_mHLI (s : State) : Result := .next (loadAPointer .HLI s)

/-- LD L,d8 (R331). -/
def execLd_L_d8 (d : Byte) (s : State) : Result := .next (writeOperand (.reg .L) d s)

/-- LD SP,d16 (R349). -/
def execLd_SP_d16 (w : Word) (s : State) : Result := .next (s.setPair .SP w)

/-- LD (HL-),A (R348). -/
def execLd_mHLD_A (s : State) : Result := .next (storeAPointer .HLD s)

/-- LD (HL),d8 (R334). -/
def execLd_mHL_d8 (d : Byte) (s : State) : Result := .next (writeOperand .mHL d s)

/-- LD A,(HL-) (R346). -/
def execLd_A_mHLD (s : State) : Result := .next (loadAPointer .HLD s)

/-- LD A,d8 (R331). -/
def execLd_A_d8 (d : Byte) (s : State) : Result := .next (writeOperand (.reg .A) d s)

/-- LD B,B (R330). -/
def execLd_B_B (s : State) : Result := .next (moveOperand (.reg .B) (.reg .B) s)

/-- LD B,C (R330). -/
def execLd_B_C (s : State) : Result := .next (moveOperand (.reg .B) (.reg .C) s)

/-- LD B,D (R330). -/
def execLd_B_D (s : State) : Result := .next (moveOperand (.reg .B) (.reg .D) s)

/-- LD B,E (R330). -/
def execLd_B_E (s : State) : Result := .next (moveOperand (.reg .B) (.reg .E) s)

/-- LD B,H (R330). -/
def execLd_B_H (s : State) : Result := .next (moveOperand (.reg .B) (.reg .H) s)

/-- LD B,L (R330). -/
def execLd_B_L (s : State) : Result := .next (moveOperand (.reg .B) (.reg .L) s)

/-- LD B,(HL) (R332). -/
def execLd_B_mHL (s : State) : Result := .next (moveOperand (.reg .B) .mHL s)

/-- LD B,A (R330). -/
def execLd_B_A (s : State) : Result := .next (moveOperand (.reg .B) (.reg .A) s)

/-- LD C,B (R330). -/
def execLd_C_B (s : State) : Result := .next (moveOperand (.reg .C) (.reg .B) s)

/-- LD C,C (R330). -/
def execLd_C_C (s : State) : Result := .next (moveOperand (.reg .C) (.reg .C) s)

/-- LD C,D (R330). -/
def execLd_C_D (s : State) : Result := .next (moveOperand (.reg .C) (.reg .D) s)

/-- LD C,E (R330). -/
def execLd_C_E (s : State) : Result := .next (moveOperand (.reg .C) (.reg .E) s)

/-- LD C,H (R330). -/
def execLd_C_H (s : State) : Result := .next (moveOperand (.reg .C) (.reg .H) s)

/-- LD C,L (R330). -/
def execLd_C_L (s : State) : Result := .next (moveOperand (.reg .C) (.reg .L) s)

/-- LD C,(HL) (R332). -/
def execLd_C_mHL (s : State) : Result := .next (moveOperand (.reg .C) .mHL s)

/-- LD C,A (R330). -/
def execLd_C_A (s : State) : Result := .next (moveOperand (.reg .C) (.reg .A) s)

/-- LD D,B (R330). -/
def execLd_D_B (s : State) : Result := .next (moveOperand (.reg .D) (.reg .B) s)

/-- LD D,C (R330). -/
def execLd_D_C (s : State) : Result := .next (moveOperand (.reg .D) (.reg .C) s)

/-- LD D,D (R330). -/
def execLd_D_D (s : State) : Result := .next (moveOperand (.reg .D) (.reg .D) s)

/-- LD D,E (R330). -/
def execLd_D_E (s : State) : Result := .next (moveOperand (.reg .D) (.reg .E) s)

/-- LD D,H (R330). -/
def execLd_D_H (s : State) : Result := .next (moveOperand (.reg .D) (.reg .H) s)

/-- LD D,L (R330). -/
def execLd_D_L (s : State) : Result := .next (moveOperand (.reg .D) (.reg .L) s)

/-- LD D,(HL) (R332). -/
def execLd_D_mHL (s : State) : Result := .next (moveOperand (.reg .D) .mHL s)

/-- LD D,A (R330). -/
def execLd_D_A (s : State) : Result := .next (moveOperand (.reg .D) (.reg .A) s)

/-- LD E,B (R330). -/
def execLd_E_B (s : State) : Result := .next (moveOperand (.reg .E) (.reg .B) s)

/-- LD E,C (R330). -/
def execLd_E_C (s : State) : Result := .next (moveOperand (.reg .E) (.reg .C) s)

/-- LD E,D (R330). -/
def execLd_E_D (s : State) : Result := .next (moveOperand (.reg .E) (.reg .D) s)

/-- LD E,E (R330). -/
def execLd_E_E (s : State) : Result := .next (moveOperand (.reg .E) (.reg .E) s)

/-- LD E,H (R330). -/
def execLd_E_H (s : State) : Result := .next (moveOperand (.reg .E) (.reg .H) s)

/-- LD E,L (R330). -/
def execLd_E_L (s : State) : Result := .next (moveOperand (.reg .E) (.reg .L) s)

/-- LD E,(HL) (R332). -/
def execLd_E_mHL (s : State) : Result := .next (moveOperand (.reg .E) .mHL s)

/-- LD E,A (R330). -/
def execLd_E_A (s : State) : Result := .next (moveOperand (.reg .E) (.reg .A) s)

/-- LD H,B (R330). -/
def execLd_H_B (s : State) : Result := .next (moveOperand (.reg .H) (.reg .B) s)

/-- LD H,C (R330). -/
def execLd_H_C (s : State) : Result := .next (moveOperand (.reg .H) (.reg .C) s)

/-- LD H,D (R330). -/
def execLd_H_D (s : State) : Result := .next (moveOperand (.reg .H) (.reg .D) s)

/-- LD H,E (R330). -/
def execLd_H_E (s : State) : Result := .next (moveOperand (.reg .H) (.reg .E) s)

/-- LD H,H (R330). -/
def execLd_H_H (s : State) : Result := .next (moveOperand (.reg .H) (.reg .H) s)

/-- LD H,L (R330). -/
def execLd_H_L (s : State) : Result := .next (moveOperand (.reg .H) (.reg .L) s)

/-- LD H,(HL) (R332). -/
def execLd_H_mHL (s : State) : Result := .next (moveOperand (.reg .H) .mHL s)

/-- LD H,A (R330). -/
def execLd_H_A (s : State) : Result := .next (moveOperand (.reg .H) (.reg .A) s)

/-- LD L,B (R330). -/
def execLd_L_B (s : State) : Result := .next (moveOperand (.reg .L) (.reg .B) s)

/-- LD L,C (R330). -/
def execLd_L_C (s : State) : Result := .next (moveOperand (.reg .L) (.reg .C) s)

/-- LD L,D (R330). -/
def execLd_L_D (s : State) : Result := .next (moveOperand (.reg .L) (.reg .D) s)

/-- LD L,E (R330). -/
def execLd_L_E (s : State) : Result := .next (moveOperand (.reg .L) (.reg .E) s)

/-- LD L,H (R330). -/
def execLd_L_H (s : State) : Result := .next (moveOperand (.reg .L) (.reg .H) s)

/-- LD L,L (R330). -/
def execLd_L_L (s : State) : Result := .next (moveOperand (.reg .L) (.reg .L) s)

/-- LD L,(HL) (R332). -/
def execLd_L_mHL (s : State) : Result := .next (moveOperand (.reg .L) .mHL s)

/-- LD L,A (R330). -/
def execLd_L_A (s : State) : Result := .next (moveOperand (.reg .L) (.reg .A) s)

/-- LD (HL),B (R333). -/
def execLd_mHL_B (s : State) : Result := .next (moveOperand .mHL (.reg .B) s)

/-- LD (HL),C (R333). -/
def execLd_mHL_C (s : State) : Result := .next (moveOperand .mHL (.reg .C) s)

/-- LD (HL),D (R333). -/
def execLd_mHL_D (s : State) : Result := .next (moveOperand .mHL (.reg .D) s)

/-- LD (HL),E (R333). -/
def execLd_mHL_E (s : State) : Result := .next (moveOperand .mHL (.reg .E) s)

/-- LD (HL),H (R333). -/
def execLd_mHL_H (s : State) : Result := .next (moveOperand .mHL (.reg .H) s)

/-- LD (HL),L (R333). -/
def execLd_mHL_L (s : State) : Result := .next (moveOperand .mHL (.reg .L) s)

/-- LD (HL),A (R333). -/
def execLd_mHL_A (s : State) : Result := .next (moveOperand .mHL (.reg .A) s)

/-- LD A,B (R330). -/
def execLd_A_B (s : State) : Result := .next (moveOperand (.reg .A) (.reg .B) s)

/-- LD A,C (R330). -/
def execLd_A_C (s : State) : Result := .next (moveOperand (.reg .A) (.reg .C) s)

/-- LD A,D (R330). -/
def execLd_A_D (s : State) : Result := .next (moveOperand (.reg .A) (.reg .D) s)

/-- LD A,E (R330). -/
def execLd_A_E (s : State) : Result := .next (moveOperand (.reg .A) (.reg .E) s)

/-- LD A,H (R330). -/
def execLd_A_H (s : State) : Result := .next (moveOperand (.reg .A) (.reg .H) s)

/-- LD A,L (R330). -/
def execLd_A_L (s : State) : Result := .next (moveOperand (.reg .A) (.reg .L) s)

/-- LD A,(HL) (R332). -/
def execLd_A_mHL (s : State) : Result := .next (moveOperand (.reg .A) .mHL s)

/-- LD A,A (R330). -/
def execLd_A_A (s : State) : Result := .next (moveOperand (.reg .A) (.reg .A) s)

/-- LDH (a8),A (R344). -/
def execLdh_ma8_A (n : Byte) (s : State) : Result := .next (storeA (highPage n) s)

/-- LDH (C),A (R342). -/
def execLdh_mC_A (s : State) : Result := .next (storeA (highPage s.c) s)

/-- LD (a16),A (R340). -/
def execLd_ma16_A (w : Word) (s : State) : Result := .next (storeA w s)

/-- LDH A,(a8) (R343). -/
def execLdh_A_ma8 (n : Byte) (s : State) : Result := .next (loadA (highPage n) s)

/-- LDH A,(C) (R341). -/
def execLdh_A_mC (s : State) : Result := .next (loadA (highPage s.c) s)

/-- LD SP,HL (R351). -/
def execLd_SP_HL (s : State) : Result := .next { s with sp := s.hl }

/-- LD A,(a16) (R339). -/
def execLd_A_ma16 (w : Word) (s : State) : Result := .next (loadA w s)

end Sys2Proof.Machine
end

