-- ==== Sys2Proof/Machine/Stack.lean ====
section
/-! DEFINITION. The meanings of PUSH and POP (43_loads_stack.md section 7). Only POP AF writes F.
PC is already past the instruction's byte (00_scope.md R17). -/

namespace Sys2Proof.Machine

/-! ## Shared operations -/

/-- `Push16(RP2[p])` (43_loads_stack.md R352). -/
def pushPair (p : StackPair) (s : State) : State := push16 (s.stackPair p) s

/-- `RP2[p] <- Pop16()`; AF through its setter, which drops the popped low nibble (43_loads_stack.md R353,
R354). -/
def popPair (p : StackPair) (s : State) : State :=
  let r := pop16 s
  r.2.setStackPair p r.1

/-! ## One meaning per instruction -/

/-- POP BC (R353). -/
def execPop_BC (s : State) : Result := .next (popPair .BC s)

/-- PUSH BC (R352). -/
def execPush_BC (s : State) : Result := .next (pushPair .BC s)

/-- POP DE (R353). -/
def execPop_DE (s : State) : Result := .next (popPair .DE s)

/-- PUSH DE (R352). -/
def execPush_DE (s : State) : Result := .next (pushPair .DE s)

/-- POP HL (R353). -/
def execPop_HL (s : State) : Result := .next (popPair .HL s)

/-- PUSH HL (R352). -/
def execPush_HL (s : State) : Result := .next (pushPair .HL s)

/-- POP AF (R354). -/
def execPop_AF (s : State) : Result := .next (popPair .AF s)

/-- PUSH AF (R352). -/
def execPush_AF (s : State) : Result := .next (pushPair .AF s)

end Sys2Proof.Machine
end

