-- ==== Sys2Proof/Machine/RotateShift.lean ====
section
/-! DEFINITION. The meanings of the rotates, shifts, SWAP and bit operations (42_rotate_shift_bit.md): RLCA,
RRCA, RLA, RRA, and the 256 instructions of the CB table in their r and (HL) forms.
PC is already past the instruction's bytes (00_scope.md R17). HL is never changed through its (HL) form. -/

namespace Sys2Proof.Machine

/-! ## Shared operations -/

/-- The accumulator rotates: Z is cleared (42_rotate_shift_bit.md R282, R284 to R287). -/
def rotateA (op : RotOp) (s : State) : State :=
  let r := rotate op s.a (flagC s.f)
  { s with a := r.1, f := aflags r.2 s.f }

/-- The CB rotates, shifts and SWAP: the operand read, the result written to the same place, `cbflags`
(42_rotate_shift_bit.md R281, R283, R288 to R303). -/
def rotateOperand (op : RotOp) (o : Operand8) (s : State) : State :=
  let p := readOperand o s
  let r := rotate op p.1 (flagC s.f)
  writeOperand o r.1 { p.2 with f := cbflags r.1 r.2 s.f }

/-- BIT: the operand is read and not written (42_rotate_shift_bit.md R283, R304, R305). -/
def bitOperand (b : Fin 8) (o : Operand8) (s : State) : State :=
  let p := readOperand o s
  { p.2 with f := bitFlags (p.1.getLsbD b.val) s.f }

/-- RES: `R8[r] <- R8[r] & ~(1 << b)`, no flag (42_rotate_shift_bit.md R306, R307). -/
def resOperand (b : Fin 8) (o : Operand8) (s : State) : State :=
  let p := readOperand o s
  writeOperand o (p.1 &&& ~~~(1#8 <<< b.val)) p.2

/-- SET: `R8[r] <- R8[r] | (1 << b)`, no flag (42_rotate_shift_bit.md R308, R309). -/
def setOperand (b : Fin 8) (o : Operand8) (s : State) : State :=
  let p := readOperand o s
  writeOperand o (p.1 ||| (1#8 <<< b.val)) p.2

/-! ## One meaning per instruction -/

/-- RLCA (R284). -/
def execRlca (s : State) : Result := .next (rotateA .rlc s)

/-- RRCA (R285). -/
def execRrca (s : State) : Result := .next (rotateA .rrc s)

/-- RLA (R286). -/
def execRla (s : State) : Result := .next (rotateA .rl s)

/-- RRA (R287). -/
def execRra (s : State) : Result := .next (rotateA .rr s)

/-- RLC B (R288). -/
def execRlc_B (s : State) : Result := .next (rotateOperand .rlc (.reg .B) s)

/-- RLC C (R288). -/
def execRlc_C (s : State) : Result := .next (rotateOperand .rlc (.reg .C) s)

/-- RLC D (R288). -/
def execRlc_D (s : State) : Result := .next (rotateOperand .rlc (.reg .D) s)

/-- RLC E (R288). -/
def execRlc_E (s : State) : Result := .next (rotateOperand .rlc (.reg .E) s)

/-- RLC H (R288). -/
def execRlc_H (s : State) : Result := .next (rotateOperand .rlc (.reg .H) s)

/-- RLC L (R288). -/
def execRlc_L (s : State) : Result := .next (rotateOperand .rlc (.reg .L) s)

/-- RLC (HL) (R289). -/
def execRlc_mHL (s : State) : Result := .next (rotateOperand .rlc .mHL s)

/-- RLC A (R288). -/
def execRlc_A (s : State) : Result := .next (rotateOperand .rlc (.reg .A) s)

/-- RRC B (R290). -/
def execRrc_B (s : State) : Result := .next (rotateOperand .rrc (.reg .B) s)

/-- RRC C (R290). -/
def execRrc_C (s : State) : Result := .next (rotateOperand .rrc (.reg .C) s)

/-- RRC D (R290). -/
def execRrc_D (s : State) : Result := .next (rotateOperand .rrc (.reg .D) s)

/-- RRC E (R290). -/
def execRrc_E (s : State) : Result := .next (rotateOperand .rrc (.reg .E) s)

/-- RRC H (R290). -/
def execRrc_H (s : State) : Result := .next (rotateOperand .rrc (.reg .H) s)

/-- RRC L (R290). -/
def execRrc_L (s : State) : Result := .next (rotateOperand .rrc (.reg .L) s)

/-- RRC (HL) (R291). -/
def execRrc_mHL (s : State) : Result := .next (rotateOperand .rrc .mHL s)

/-- RRC A (R290). -/
def execRrc_A (s : State) : Result := .next (rotateOperand .rrc (.reg .A) s)

/-- RL B (R292). -/
def execRl_B (s : State) : Result := .next (rotateOperand .rl (.reg .B) s)

/-- RL C (R292). -/
def execRl_C (s : State) : Result := .next (rotateOperand .rl (.reg .C) s)

/-- RL D (R292). -/
def execRl_D (s : State) : Result := .next (rotateOperand .rl (.reg .D) s)

/-- RL E (R292). -/
def execRl_E (s : State) : Result := .next (rotateOperand .rl (.reg .E) s)

/-- RL H (R292). -/
def execRl_H (s : State) : Result := .next (rotateOperand .rl (.reg .H) s)

/-- RL L (R292). -/
def execRl_L (s : State) : Result := .next (rotateOperand .rl (.reg .L) s)

/-- RL (HL) (R293). -/
def execRl_mHL (s : State) : Result := .next (rotateOperand .rl .mHL s)

/-- RL A (R292). -/
def execRl_A (s : State) : Result := .next (rotateOperand .rl (.reg .A) s)

/-- RR B (R294). -/
def execRr_B (s : State) : Result := .next (rotateOperand .rr (.reg .B) s)

/-- RR C (R294). -/
def execRr_C (s : State) : Result := .next (rotateOperand .rr (.reg .C) s)

/-- RR D (R294). -/
def execRr_D (s : State) : Result := .next (rotateOperand .rr (.reg .D) s)

/-- RR E (R294). -/
def execRr_E (s : State) : Result := .next (rotateOperand .rr (.reg .E) s)

/-- RR H (R294). -/
def execRr_H (s : State) : Result := .next (rotateOperand .rr (.reg .H) s)

/-- RR L (R294). -/
def execRr_L (s : State) : Result := .next (rotateOperand .rr (.reg .L) s)

/-- RR (HL) (R295). -/
def execRr_mHL (s : State) : Result := .next (rotateOperand .rr .mHL s)

/-- RR A (R294). -/
def execRr_A (s : State) : Result := .next (rotateOperand .rr (.reg .A) s)

/-- SLA B (R296). -/
def execSla_B (s : State) : Result := .next (rotateOperand .sla (.reg .B) s)

/-- SLA C (R296). -/
def execSla_C (s : State) : Result := .next (rotateOperand .sla (.reg .C) s)

/-- SLA D (R296). -/
def execSla_D (s : State) : Result := .next (rotateOperand .sla (.reg .D) s)

/-- SLA E (R296). -/
def execSla_E (s : State) : Result := .next (rotateOperand .sla (.reg .E) s)

/-- SLA H (R296). -/
def execSla_H (s : State) : Result := .next (rotateOperand .sla (.reg .H) s)

/-- SLA L (R296). -/
def execSla_L (s : State) : Result := .next (rotateOperand .sla (.reg .L) s)

/-- SLA (HL) (R297). -/
def execSla_mHL (s : State) : Result := .next (rotateOperand .sla .mHL s)

/-- SLA A (R296). -/
def execSla_A (s : State) : Result := .next (rotateOperand .sla (.reg .A) s)

/-- SRA B (R298). -/
def execSra_B (s : State) : Result := .next (rotateOperand .sra (.reg .B) s)

/-- SRA C (R298). -/
def execSra_C (s : State) : Result := .next (rotateOperand .sra (.reg .C) s)

/-- SRA D (R298). -/
def execSra_D (s : State) : Result := .next (rotateOperand .sra (.reg .D) s)

/-- SRA E (R298). -/
def execSra_E (s : State) : Result := .next (rotateOperand .sra (.reg .E) s)

/-- SRA H (R298). -/
def execSra_H (s : State) : Result := .next (rotateOperand .sra (.reg .H) s)

/-- SRA L (R298). -/
def execSra_L (s : State) : Result := .next (rotateOperand .sra (.reg .L) s)

/-- SRA (HL) (R299). -/
def execSra_mHL (s : State) : Result := .next (rotateOperand .sra .mHL s)

/-- SRA A (R298). -/
def execSra_A (s : State) : Result := .next (rotateOperand .sra (.reg .A) s)

/-- SWAP B (R300). -/
def execSwap_B (s : State) : Result := .next (rotateOperand .swap (.reg .B) s)

/-- SWAP C (R300). -/
def execSwap_C (s : State) : Result := .next (rotateOperand .swap (.reg .C) s)

/-- SWAP D (R300). -/
def execSwap_D (s : State) : Result := .next (rotateOperand .swap (.reg .D) s)

/-- SWAP E (R300). -/
def execSwap_E (s : State) : Result := .next (rotateOperand .swap (.reg .E) s)

/-- SWAP H (R300). -/
def execSwap_H (s : State) : Result := .next (rotateOperand .swap (.reg .H) s)

/-- SWAP L (R300). -/
def execSwap_L (s : State) : Result := .next (rotateOperand .swap (.reg .L) s)

/-- SWAP (HL) (R301). -/
def execSwap_mHL (s : State) : Result := .next (rotateOperand .swap .mHL s)

/-- SWAP A (R300). -/
def execSwap_A (s : State) : Result := .next (rotateOperand .swap (.reg .A) s)

/-- SRL B (R302). -/
def execSrl_B (s : State) : Result := .next (rotateOperand .srl (.reg .B) s)

/-- SRL C (R302). -/
def execSrl_C (s : State) : Result := .next (rotateOperand .srl (.reg .C) s)

/-- SRL D (R302). -/
def execSrl_D (s : State) : Result := .next (rotateOperand .srl (.reg .D) s)

/-- SRL E (R302). -/
def execSrl_E (s : State) : Result := .next (rotateOperand .srl (.reg .E) s)

/-- SRL H (R302). -/
def execSrl_H (s : State) : Result := .next (rotateOperand .srl (.reg .H) s)

/-- SRL L (R302). -/
def execSrl_L (s : State) : Result := .next (rotateOperand .srl (.reg .L) s)

/-- SRL (HL) (R303). -/
def execSrl_mHL (s : State) : Result := .next (rotateOperand .srl .mHL s)

/-- SRL A (R302). -/
def execSrl_A (s : State) : Result := .next (rotateOperand .srl (.reg .A) s)

/-- BIT 0,B (R304). -/
def execBit_0_B (s : State) : Result := .next (bitOperand 0 (.reg .B) s)

/-- BIT 0,C (R304). -/
def execBit_0_C (s : State) : Result := .next (bitOperand 0 (.reg .C) s)

/-- BIT 0,D (R304). -/
def execBit_0_D (s : State) : Result := .next (bitOperand 0 (.reg .D) s)

/-- BIT 0,E (R304). -/
def execBit_0_E (s : State) : Result := .next (bitOperand 0 (.reg .E) s)

/-- BIT 0,H (R304). -/
def execBit_0_H (s : State) : Result := .next (bitOperand 0 (.reg .H) s)

/-- BIT 0,L (R304). -/
def execBit_0_L (s : State) : Result := .next (bitOperand 0 (.reg .L) s)

/-- BIT 0,(HL) (R305). -/
def execBit_0_mHL (s : State) : Result := .next (bitOperand 0 .mHL s)

/-- BIT 0,A (R304). -/
def execBit_0_A (s : State) : Result := .next (bitOperand 0 (.reg .A) s)

/-- BIT 1,B (R304). -/
def execBit_1_B (s : State) : Result := .next (bitOperand 1 (.reg .B) s)

/-- BIT 1,C (R304). -/
def execBit_1_C (s : State) : Result := .next (bitOperand 1 (.reg .C) s)

/-- BIT 1,D (R304). -/
def execBit_1_D (s : State) : Result := .next (bitOperand 1 (.reg .D) s)

/-- BIT 1,E (R304). -/
def execBit_1_E (s : State) : Result := .next (bitOperand 1 (.reg .E) s)

/-- BIT 1,H (R304). -/
def execBit_1_H (s : State) : Result := .next (bitOperand 1 (.reg .H) s)

/-- BIT 1,L (R304). -/
def execBit_1_L (s : State) : Result := .next (bitOperand 1 (.reg .L) s)

/-- BIT 1,(HL) (R305). -/
def execBit_1_mHL (s : State) : Result := .next (bitOperand 1 .mHL s)

/-- BIT 1,A (R304). -/
def execBit_1_A (s : State) : Result := .next (bitOperand 1 (.reg .A) s)

/-- BIT 2,B (R304). -/
def execBit_2_B (s : State) : Result := .next (bitOperand 2 (.reg .B) s)

/-- BIT 2,C (R304). -/
def execBit_2_C (s : State) : Result := .next (bitOperand 2 (.reg .C) s)

/-- BIT 2,D (R304). -/
def execBit_2_D (s : State) : Result := .next (bitOperand 2 (.reg .D) s)

/-- BIT 2,E (R304). -/
def execBit_2_E (s : State) : Result := .next (bitOperand 2 (.reg .E) s)

/-- BIT 2,H (R304). -/
def execBit_2_H (s : State) : Result := .next (bitOperand 2 (.reg .H) s)

/-- BIT 2,L (R304). -/
def execBit_2_L (s : State) : Result := .next (bitOperand 2 (.reg .L) s)

/-- BIT 2,(HL) (R305). -/
def execBit_2_mHL (s : State) : Result := .next (bitOperand 2 .mHL s)

/-- BIT 2,A (R304). -/
def execBit_2_A (s : State) : Result := .next (bitOperand 2 (.reg .A) s)

/-- BIT 3,B (R304). -/
def execBit_3_B (s : State) : Result := .next (bitOperand 3 (.reg .B) s)

/-- BIT 3,C (R304). -/
def execBit_3_C (s : State) : Result := .next (bitOperand 3 (.reg .C) s)

/-- BIT 3,D (R304). -/
def execBit_3_D (s : State) : Result := .next (bitOperand 3 (.reg .D) s)

/-- BIT 3,E (R304). -/
def execBit_3_E (s : State) : Result := .next (bitOperand 3 (.reg .E) s)

/-- BIT 3,H (R304). -/
def execBit_3_H (s : State) : Result := .next (bitOperand 3 (.reg .H) s)

/-- BIT 3,L (R304). -/
def execBit_3_L (s : State) : Result := .next (bitOperand 3 (.reg .L) s)

/-- BIT 3,(HL) (R305). -/
def execBit_3_mHL (s : State) : Result := .next (bitOperand 3 .mHL s)

/-- BIT 3,A (R304). -/
def execBit_3_A (s : State) : Result := .next (bitOperand 3 (.reg .A) s)

/-- BIT 4,B (R304). -/
def execBit_4_B (s : State) : Result := .next (bitOperand 4 (.reg .B) s)

/-- BIT 4,C (R304). -/
def execBit_4_C (s : State) : Result := .next (bitOperand 4 (.reg .C) s)

/-- BIT 4,D (R304). -/
def execBit_4_D (s : State) : Result := .next (bitOperand 4 (.reg .D) s)

/-- BIT 4,E (R304). -/
def execBit_4_E (s : State) : Result := .next (bitOperand 4 (.reg .E) s)

/-- BIT 4,H (R304). -/
def execBit_4_H (s : State) : Result := .next (bitOperand 4 (.reg .H) s)

/-- BIT 4,L (R304). -/
def execBit_4_L (s : State) : Result := .next (bitOperand 4 (.reg .L) s)

/-- BIT 4,(HL) (R305). -/
def execBit_4_mHL (s : State) : Result := .next (bitOperand 4 .mHL s)

/-- BIT 4,A (R304). -/
def execBit_4_A (s : State) : Result := .next (bitOperand 4 (.reg .A) s)

/-- BIT 5,B (R304). -/
def execBit_5_B (s : State) : Result := .next (bitOperand 5 (.reg .B) s)

/-- BIT 5,C (R304). -/
def execBit_5_C (s : State) : Result := .next (bitOperand 5 (.reg .C) s)

/-- BIT 5,D (R304). -/
def execBit_5_D (s : State) : Result := .next (bitOperand 5 (.reg .D) s)

/-- BIT 5,E (R304). -/
def execBit_5_E (s : State) : Result := .next (bitOperand 5 (.reg .E) s)

/-- BIT 5,H (R304). -/
def execBit_5_H (s : State) : Result := .next (bitOperand 5 (.reg .H) s)

/-- BIT 5,L (R304). -/
def execBit_5_L (s : State) : Result := .next (bitOperand 5 (.reg .L) s)

/-- BIT 5,(HL) (R305). -/
def execBit_5_mHL (s : State) : Result := .next (bitOperand 5 .mHL s)

/-- BIT 5,A (R304). -/
def execBit_5_A (s : State) : Result := .next (bitOperand 5 (.reg .A) s)

/-- BIT 6,B (R304). -/
def execBit_6_B (s : State) : Result := .next (bitOperand 6 (.reg .B) s)

/-- BIT 6,C (R304). -/
def execBit_6_C (s : State) : Result := .next (bitOperand 6 (.reg .C) s)

/-- BIT 6,D (R304). -/
def execBit_6_D (s : State) : Result := .next (bitOperand 6 (.reg .D) s)

/-- BIT 6,E (R304). -/
def execBit_6_E (s : State) : Result := .next (bitOperand 6 (.reg .E) s)

/-- BIT 6,H (R304). -/
def execBit_6_H (s : State) : Result := .next (bitOperand 6 (.reg .H) s)

/-- BIT 6,L (R304). -/
def execBit_6_L (s : State) : Result := .next (bitOperand 6 (.reg .L) s)

/-- BIT 6,(HL) (R305). -/
def execBit_6_mHL (s : State) : Result := .next (bitOperand 6 .mHL s)

/-- BIT 6,A (R304). -/
def execBit_6_A (s : State) : Result := .next (bitOperand 6 (.reg .A) s)

/-- BIT 7,B (R304). -/
def execBit_7_B (s : State) : Result := .next (bitOperand 7 (.reg .B) s)

/-- BIT 7,C (R304). -/
def execBit_7_C (s : State) : Result := .next (bitOperand 7 (.reg .C) s)

/-- BIT 7,D (R304). -/
def execBit_7_D (s : State) : Result := .next (bitOperand 7 (.reg .D) s)

/-- BIT 7,E (R304). -/
def execBit_7_E (s : State) : Result := .next (bitOperand 7 (.reg .E) s)

/-- BIT 7,H (R304). -/
def execBit_7_H (s : State) : Result := .next (bitOperand 7 (.reg .H) s)

/-- BIT 7,L (R304). -/
def execBit_7_L (s : State) : Result := .next (bitOperand 7 (.reg .L) s)

/-- BIT 7,(HL) (R305). -/
def execBit_7_mHL (s : State) : Result := .next (bitOperand 7 .mHL s)

/-- BIT 7,A (R304). -/
def execBit_7_A (s : State) : Result := .next (bitOperand 7 (.reg .A) s)

/-- RES 0,B (R306). -/
def execRes_0_B (s : State) : Result := .next (resOperand 0 (.reg .B) s)

/-- RES 0,C (R306). -/
def execRes_0_C (s : State) : Result := .next (resOperand 0 (.reg .C) s)

/-- RES 0,D (R306). -/
def execRes_0_D (s : State) : Result := .next (resOperand 0 (.reg .D) s)

/-- RES 0,E (R306). -/
def execRes_0_E (s : State) : Result := .next (resOperand 0 (.reg .E) s)

/-- RES 0,H (R306). -/
def execRes_0_H (s : State) : Result := .next (resOperand 0 (.reg .H) s)

/-- RES 0,L (R306). -/
def execRes_0_L (s : State) : Result := .next (resOperand 0 (.reg .L) s)

/-- RES 0,(HL) (R307). -/
def execRes_0_mHL (s : State) : Result := .next (resOperand 0 .mHL s)

/-- RES 0,A (R306). -/
def execRes_0_A (s : State) : Result := .next (resOperand 0 (.reg .A) s)

/-- RES 1,B (R306). -/
def execRes_1_B (s : State) : Result := .next (resOperand 1 (.reg .B) s)

/-- RES 1,C (R306). -/
def execRes_1_C (s : State) : Result := .next (resOperand 1 (.reg .C) s)

/-- RES 1,D (R306). -/
def execRes_1_D (s : State) : Result := .next (resOperand 1 (.reg .D) s)

/-- RES 1,E (R306). -/
def execRes_1_E (s : State) : Result := .next (resOperand 1 (.reg .E) s)

/-- RES 1,H (R306). -/
def execRes_1_H (s : State) : Result := .next (resOperand 1 (.reg .H) s)

/-- RES 1,L (R306). -/
def execRes_1_L (s : State) : Result := .next (resOperand 1 (.reg .L) s)

/-- RES 1,(HL) (R307). -/
def execRes_1_mHL (s : State) : Result := .next (resOperand 1 .mHL s)

/-- RES 1,A (R306). -/
def execRes_1_A (s : State) : Result := .next (resOperand 1 (.reg .A) s)

/-- RES 2,B (R306). -/
def execRes_2_B (s : State) : Result := .next (resOperand 2 (.reg .B) s)

/-- RES 2,C (R306). -/
def execRes_2_C (s : State) : Result := .next (resOperand 2 (.reg .C) s)

/-- RES 2,D (R306). -/
def execRes_2_D (s : State) : Result := .next (resOperand 2 (.reg .D) s)

/-- RES 2,E (R306). -/
def execRes_2_E (s : State) : Result := .next (resOperand 2 (.reg .E) s)

/-- RES 2,H (R306). -/
def execRes_2_H (s : State) : Result := .next (resOperand 2 (.reg .H) s)

/-- RES 2,L (R306). -/
def execRes_2_L (s : State) : Result := .next (resOperand 2 (.reg .L) s)

/-- RES 2,(HL) (R307). -/
def execRes_2_mHL (s : State) : Result := .next (resOperand 2 .mHL s)

/-- RES 2,A (R306). -/
def execRes_2_A (s : State) : Result := .next (resOperand 2 (.reg .A) s)

/-- RES 3,B (R306). -/
def execRes_3_B (s : State) : Result := .next (resOperand 3 (.reg .B) s)

/-- RES 3,C (R306). -/
def execRes_3_C (s : State) : Result := .next (resOperand 3 (.reg .C) s)

/-- RES 3,D (R306). -/
def execRes_3_D (s : State) : Result := .next (resOperand 3 (.reg .D) s)

/-- RES 3,E (R306). -/
def execRes_3_E (s : State) : Result := .next (resOperand 3 (.reg .E) s)

/-- RES 3,H (R306). -/
def execRes_3_H (s : State) : Result := .next (resOperand 3 (.reg .H) s)

/-- RES 3,L (R306). -/
def execRes_3_L (s : State) : Result := .next (resOperand 3 (.reg .L) s)

/-- RES 3,(HL) (R307). -/
def execRes_3_mHL (s : State) : Result := .next (resOperand 3 .mHL s)

/-- RES 3,A (R306). -/
def execRes_3_A (s : State) : Result := .next (resOperand 3 (.reg .A) s)

/-- RES 4,B (R306). -/
def execRes_4_B (s : State) : Result := .next (resOperand 4 (.reg .B) s)

/-- RES 4,C (R306). -/
def execRes_4_C (s : State) : Result := .next (resOperand 4 (.reg .C) s)

/-- RES 4,D (R306). -/
def execRes_4_D (s : State) : Result := .next (resOperand 4 (.reg .D) s)

/-- RES 4,E (R306). -/
def execRes_4_E (s : State) : Result := .next (resOperand 4 (.reg .E) s)

/-- RES 4,H (R306). -/
def execRes_4_H (s : State) : Result := .next (resOperand 4 (.reg .H) s)

/-- RES 4,L (R306). -/
def execRes_4_L (s : State) : Result := .next (resOperand 4 (.reg .L) s)

/-- RES 4,(HL) (R307). -/
def execRes_4_mHL (s : State) : Result := .next (resOperand 4 .mHL s)

/-- RES 4,A (R306). -/
def execRes_4_A (s : State) : Result := .next (resOperand 4 (.reg .A) s)

/-- RES 5,B (R306). -/
def execRes_5_B (s : State) : Result := .next (resOperand 5 (.reg .B) s)

/-- RES 5,C (R306). -/
def execRes_5_C (s : State) : Result := .next (resOperand 5 (.reg .C) s)

/-- RES 5,D (R306). -/
def execRes_5_D (s : State) : Result := .next (resOperand 5 (.reg .D) s)

/-- RES 5,E (R306). -/
def execRes_5_E (s : State) : Result := .next (resOperand 5 (.reg .E) s)

/-- RES 5,H (R306). -/
def execRes_5_H (s : State) : Result := .next (resOperand 5 (.reg .H) s)

/-- RES 5,L (R306). -/
def execRes_5_L (s : State) : Result := .next (resOperand 5 (.reg .L) s)

/-- RES 5,(HL) (R307). -/
def execRes_5_mHL (s : State) : Result := .next (resOperand 5 .mHL s)

/-- RES 5,A (R306). -/
def execRes_5_A (s : State) : Result := .next (resOperand 5 (.reg .A) s)

/-- RES 6,B (R306). -/
def execRes_6_B (s : State) : Result := .next (resOperand 6 (.reg .B) s)

/-- RES 6,C (R306). -/
def execRes_6_C (s : State) : Result := .next (resOperand 6 (.reg .C) s)

/-- RES 6,D (R306). -/
def execRes_6_D (s : State) : Result := .next (resOperand 6 (.reg .D) s)

/-- RES 6,E (R306). -/
def execRes_6_E (s : State) : Result := .next (resOperand 6 (.reg .E) s)

/-- RES 6,H (R306). -/
def execRes_6_H (s : State) : Result := .next (resOperand 6 (.reg .H) s)

/-- RES 6,L (R306). -/
def execRes_6_L (s : State) : Result := .next (resOperand 6 (.reg .L) s)

/-- RES 6,(HL) (R307). -/
def execRes_6_mHL (s : State) : Result := .next (resOperand 6 .mHL s)

/-- RES 6,A (R306). -/
def execRes_6_A (s : State) : Result := .next (resOperand 6 (.reg .A) s)

/-- RES 7,B (R306). -/
def execRes_7_B (s : State) : Result := .next (resOperand 7 (.reg .B) s)

/-- RES 7,C (R306). -/
def execRes_7_C (s : State) : Result := .next (resOperand 7 (.reg .C) s)

/-- RES 7,D (R306). -/
def execRes_7_D (s : State) : Result := .next (resOperand 7 (.reg .D) s)

/-- RES 7,E (R306). -/
def execRes_7_E (s : State) : Result := .next (resOperand 7 (.reg .E) s)

/-- RES 7,H (R306). -/
def execRes_7_H (s : State) : Result := .next (resOperand 7 (.reg .H) s)

/-- RES 7,L (R306). -/
def execRes_7_L (s : State) : Result := .next (resOperand 7 (.reg .L) s)

/-- RES 7,(HL) (R307). -/
def execRes_7_mHL (s : State) : Result := .next (resOperand 7 .mHL s)

/-- RES 7,A (R306). -/
def execRes_7_A (s : State) : Result := .next (resOperand 7 (.reg .A) s)

/-- SET 0,B (R308). -/
def execSet_0_B (s : State) : Result := .next (setOperand 0 (.reg .B) s)

/-- SET 0,C (R308). -/
def execSet_0_C (s : State) : Result := .next (setOperand 0 (.reg .C) s)

/-- SET 0,D (R308). -/
def execSet_0_D (s : State) : Result := .next (setOperand 0 (.reg .D) s)

/-- SET 0,E (R308). -/
def execSet_0_E (s : State) : Result := .next (setOperand 0 (.reg .E) s)

/-- SET 0,H (R308). -/
def execSet_0_H (s : State) : Result := .next (setOperand 0 (.reg .H) s)

/-- SET 0,L (R308). -/
def execSet_0_L (s : State) : Result := .next (setOperand 0 (.reg .L) s)

/-- SET 0,(HL) (R309). -/
def execSet_0_mHL (s : State) : Result := .next (setOperand 0 .mHL s)

/-- SET 0,A (R308). -/
def execSet_0_A (s : State) : Result := .next (setOperand 0 (.reg .A) s)

/-- SET 1,B (R308). -/
def execSet_1_B (s : State) : Result := .next (setOperand 1 (.reg .B) s)

/-- SET 1,C (R308). -/
def execSet_1_C (s : State) : Result := .next (setOperand 1 (.reg .C) s)

/-- SET 1,D (R308). -/
def execSet_1_D (s : State) : Result := .next (setOperand 1 (.reg .D) s)

/-- SET 1,E (R308). -/
def execSet_1_E (s : State) : Result := .next (setOperand 1 (.reg .E) s)

/-- SET 1,H (R308). -/
def execSet_1_H (s : State) : Result := .next (setOperand 1 (.reg .H) s)

/-- SET 1,L (R308). -/
def execSet_1_L (s : State) : Result := .next (setOperand 1 (.reg .L) s)

/-- SET 1,(HL) (R309). -/
def execSet_1_mHL (s : State) : Result := .next (setOperand 1 .mHL s)

/-- SET 1,A (R308). -/
def execSet_1_A (s : State) : Result := .next (setOperand 1 (.reg .A) s)

/-- SET 2,B (R308). -/
def execSet_2_B (s : State) : Result := .next (setOperand 2 (.reg .B) s)

/-- SET 2,C (R308). -/
def execSet_2_C (s : State) : Result := .next (setOperand 2 (.reg .C) s)

/-- SET 2,D (R308). -/
def execSet_2_D (s : State) : Result := .next (setOperand 2 (.reg .D) s)

/-- SET 2,E (R308). -/
def execSet_2_E (s : State) : Result := .next (setOperand 2 (.reg .E) s)

/-- SET 2,H (R308). -/
def execSet_2_H (s : State) : Result := .next (setOperand 2 (.reg .H) s)

/-- SET 2,L (R308). -/
def execSet_2_L (s : State) : Result := .next (setOperand 2 (.reg .L) s)

/-- SET 2,(HL) (R309). -/
def execSet_2_mHL (s : State) : Result := .next (setOperand 2 .mHL s)

/-- SET 2,A (R308). -/
def execSet_2_A (s : State) : Result := .next (setOperand 2 (.reg .A) s)

/-- SET 3,B (R308). -/
def execSet_3_B (s : State) : Result := .next (setOperand 3 (.reg .B) s)

/-- SET 3,C (R308). -/
def execSet_3_C (s : State) : Result := .next (setOperand 3 (.reg .C) s)

/-- SET 3,D (R308). -/
def execSet_3_D (s : State) : Result := .next (setOperand 3 (.reg .D) s)

/-- SET 3,E (R308). -/
def execSet_3_E (s : State) : Result := .next (setOperand 3 (.reg .E) s)

/-- SET 3,H (R308). -/
def execSet_3_H (s : State) : Result := .next (setOperand 3 (.reg .H) s)

/-- SET 3,L (R308). -/
def execSet_3_L (s : State) : Result := .next (setOperand 3 (.reg .L) s)

/-- SET 3,(HL) (R309). -/
def execSet_3_mHL (s : State) : Result := .next (setOperand 3 .mHL s)

/-- SET 3,A (R308). -/
def execSet_3_A (s : State) : Result := .next (setOperand 3 (.reg .A) s)

/-- SET 4,B (R308). -/
def execSet_4_B (s : State) : Result := .next (setOperand 4 (.reg .B) s)

/-- SET 4,C (R308). -/
def execSet_4_C (s : State) : Result := .next (setOperand 4 (.reg .C) s)

/-- SET 4,D (R308). -/
def execSet_4_D (s : State) : Result := .next (setOperand 4 (.reg .D) s)

/-- SET 4,E (R308). -/
def execSet_4_E (s : State) : Result := .next (setOperand 4 (.reg .E) s)

/-- SET 4,H (R308). -/
def execSet_4_H (s : State) : Result := .next (setOperand 4 (.reg .H) s)

/-- SET 4,L (R308). -/
def execSet_4_L (s : State) : Result := .next (setOperand 4 (.reg .L) s)

/-- SET 4,(HL) (R309). -/
def execSet_4_mHL (s : State) : Result := .next (setOperand 4 .mHL s)

/-- SET 4,A (R308). -/
def execSet_4_A (s : State) : Result := .next (setOperand 4 (.reg .A) s)

/-- SET 5,B (R308). -/
def execSet_5_B (s : State) : Result := .next (setOperand 5 (.reg .B) s)

/-- SET 5,C (R308). -/
def execSet_5_C (s : State) : Result := .next (setOperand 5 (.reg .C) s)

/-- SET 5,D (R308). -/
def execSet_5_D (s : State) : Result := .next (setOperand 5 (.reg .D) s)

/-- SET 5,E (R308). -/
def execSet_5_E (s : State) : Result := .next (setOperand 5 (.reg .E) s)

/-- SET 5,H (R308). -/
def execSet_5_H (s : State) : Result := .next (setOperand 5 (.reg .H) s)

/-- SET 5,L (R308). -/
def execSet_5_L (s : State) : Result := .next (setOperand 5 (.reg .L) s)

/-- SET 5,(HL) (R309). -/
def execSet_5_mHL (s : State) : Result := .next (setOperand 5 .mHL s)

/-- SET 5,A (R308). -/
def execSet_5_A (s : State) : Result := .next (setOperand 5 (.reg .A) s)

/-- SET 6,B (R308). -/
def execSet_6_B (s : State) : Result := .next (setOperand 6 (.reg .B) s)

/-- SET 6,C (R308). -/
def execSet_6_C (s : State) : Result := .next (setOperand 6 (.reg .C) s)

/-- SET 6,D (R308). -/
def execSet_6_D (s : State) : Result := .next (setOperand 6 (.reg .D) s)

/-- SET 6,E (R308). -/
def execSet_6_E (s : State) : Result := .next (setOperand 6 (.reg .E) s)

/-- SET 6,H (R308). -/
def execSet_6_H (s : State) : Result := .next (setOperand 6 (.reg .H) s)

/-- SET 6,L (R308). -/
def execSet_6_L (s : State) : Result := .next (setOperand 6 (.reg .L) s)

/-- SET 6,(HL) (R309). -/
def execSet_6_mHL (s : State) : Result := .next (setOperand 6 .mHL s)

/-- SET 6,A (R308). -/
def execSet_6_A (s : State) : Result := .next (setOperand 6 (.reg .A) s)

/-- SET 7,B (R308). -/
def execSet_7_B (s : State) : Result := .next (setOperand 7 (.reg .B) s)

/-- SET 7,C (R308). -/
def execSet_7_C (s : State) : Result := .next (setOperand 7 (.reg .C) s)

/-- SET 7,D (R308). -/
def execSet_7_D (s : State) : Result := .next (setOperand 7 (.reg .D) s)

/-- SET 7,E (R308). -/
def execSet_7_E (s : State) : Result := .next (setOperand 7 (.reg .E) s)

/-- SET 7,H (R308). -/
def execSet_7_H (s : State) : Result := .next (setOperand 7 (.reg .H) s)

/-- SET 7,L (R308). -/
def execSet_7_L (s : State) : Result := .next (setOperand 7 (.reg .L) s)

/-- SET 7,(HL) (R309). -/
def execSet_7_mHL (s : State) : Result := .next (setOperand 7 .mHL s)

/-- SET 7,A (R308). -/
def execSet_7_A (s : State) : Result := .next (setOperand 7 (.reg .A) s)

end Sys2Proof.Machine
end

