-- ==== Sys2Proof/Machine/System.lean ====
section
/-! DEFINITION. The meanings of NOP, HALT, STOP, DI, EI, the CB prefix and the unassigned opcodes (45_system.md).
HALT and STOP are no-op advances (R411, R412; 90_conflicts.md C2).
PC is already past the instruction's bytes (00_scope.md R17). -/

namespace Sys2Proof.Machine

/-! ## Shared operations -/

/-- CB-table entry `op2`, executed from the fields of the second byte: x selects the group, y the operation or
the bit, z the operand (45_system.md R415, 30_encoding.md R130). -/
def cbEntry (op2 : Byte) (s : State) : State :=
  match xField op2 with
  | 0 => rotateOperand (rotOf (yField op2)) (operandOf (zField op2)) s
  | 1 => bitOperand (yField op2) (operandOf (zField op2)) s
  | 2 => resOperand (yField op2) (operandOf (zField op2)) s
  | 3 => setOperand (yField op2) (operandOf (zField op2)) s

/-! ## One meaning per instruction -/

/-- NOP: nothing beyond the fetch (R410). -/
def execNop (s : State) : Result := .next s

/-- STOP: a no-op advance; its second byte has been fetched and is ignored (R412). -/
def execStop (_ignored : Byte) (s : State) : Result := .next s

/-- HALT: a no-op advance; it does not wait and does not change IME (R411). -/
def execHalt (s : State) : Result := .next s

/-- PREFIX CB: the CB-table entry of its second byte (R415). -/
def execPrefix_CB (op2 : Byte) (s : State) : Result := .next (cbEntry op2 s)

/-- ILLEGAL: the core locks and IllegalOpcode is recorded; PC stays one past the opcode (R420). -/
def execIllegal (op : Byte) (s : State) : Result := .next (raiseIllegal op s)

/-- DI: IME is cleared and a pending EI is cancelled (R413). -/
def execDi (s : State) : Result := .next { s with ime := false, eiPending := false }

/-- EI: IME follows at the start of the next step (R414). -/
def execEi (s : State) : Result := .next { s with eiPending := true }

end Sys2Proof.Machine
end

