-- ==== Sys2Proof/Machine/Fetch.lean ====
section
/-! DEFINITION. The boundary between two instructions and the fetch (30_encoding.md R122, 00_scope.md R15 and
R17, 60_exceptions.md R510), and placing an instruction where the next step fetches it. -/

namespace Sys2Proof.Machine

/-- The step boundary: the bus port's record of the last step is cleared and the sample of IRQ[4:0] at this
boundary is used up (20_memory.md R98, 60_exceptions.md R503). -/
def beginStep (s : State) : State := { s with bus := [], irqInput := s.irqInput.tail }

/-- The decode procedure: the opcode byte, then as many bytes as its format has, each fetched at PC, which
ends past the instruction (30_encoding.md R122 to R124). A conditional transfer's immediate is fetched
whether or not it is taken (44_control.md R380). -/
def fetchInstr (s : State) : Instr × State :=
  let p := fetchByte s
  match formatOf p.1 with
  | .op => (decodeRow p.1 0 0, p.2)
  | .opD8 | .opE8 | .opA8 | .stop | .cb =>
    let q := fetchByte p.2
    (decodeRow p.1 q.1 0, q.2)
  | .opD16 =>
    let q := fetchByte p.2
    let r := fetchByte q.2
    (decodeRow p.1 q.1 r.1, r.2)

/-- The `n` bytes from an address on, modulo 65536. -/
def bytesAt (s : State) (addr : Word) : Nat → List Byte
  | 0 => []
  | n + 1 => s.readByte addr :: bytesAt s (addr + 1) n

/-- The fetch transactions of the `n` bytes from an address on, in increasing address order
(20_memory.md R98, R99). -/
def fetchReads (s : State) (addr : Word) : Nat → List BusTxn
  | 0 => []
  | n + 1 => .read .fetch addr (s.readByte addr) :: fetchReads s (addr + 1) n

/-- The three bytes `b` stored at PC and the two addresses after it, modulo 65536. -/
def placeBytes (b : Byte × Byte × Byte) (s : State) : Memory :=
  ((s.mem.write s.pc.toNat b.1).write (s.pc + 1).toNat b.2.1).write (s.pc + 2).toNat b.2.2

/-- The coming samples of IRQ[4:0] with no request at the next boundary. -/
def quietNextBoundary (irqInput : List (BitVec 5)) : List (BitVec 5) :=
  match irqInput with
  | [] => []
  | _ :: later => 0 :: later

end Sys2Proof.Machine
end

