-- ==== Sys2Proof/Machine/Step.lean ====
section
/-! DEFINITION. One step of the core (60_exceptions.md R510), and the state whose next step runs a given
instruction. -/

namespace Sys2Proof.Machine

/-- One step: a locked core reports its fault and changes nothing; else an interrupt request is taken if
IME = 1 and IRQ ≠ 0; else the EI delay ends and one instruction is fetched and executed (60_exceptions.md
R510, 45_system.md R421). -/
def step (s : State) : Host.Outcome State Fault Refusal :=
  if s.locked then .fault (.illegalOpcode s.illegalOpcode)
  else
    match acceptedLine s with
    | some n => .next (enterInterrupt n (beginStep s))
    | none =>
      let p := fetchInstr (promoteEi (beginStep s))
      exec p.1 p.2

/-- `s` with the opcode table's word `w` of `nbits` bits stored at PC, where the next step fetches, zeros
above it (`tableBytes`). So that the next step fetches at all, the core is not locked and its next boundary
samples no request; at `State.reset` neither changes anything. It stands for the ROM image that is loaded
from outside before the first step (70_reset_and_hazards.md R552; assumption log 5). -/
def State.withFetchWord (s : State) (nbits w : Nat) : State :=
  { s with mem := placeBytes (tableBytes nbits w) s, locked := false, irqInput := quietNextBoundary s.irqInput }

end Sys2Proof.Machine
end

