-- ==== Sys2Proof/Machine/Driver.lean ====
section
/-! DEFINITION. What the driver outside the core may do between steps (60_exceptions.md R521): load a ROM
image before the first step (70_reset_and_hazards.md R552), read or write memory through the direct memory
interface (20_memory.md R99), present interrupt requests (60_exceptions.md R503), and read every register,
pair and flag without side effects (10_state.md R50).
None of these is a step, none is a transaction of the core's bus port, and none writes a register. -/

namespace Sys2Proof.Machine

/-- The ROM image written at bus addresses 0 to L - 1; an image longer than the bus is refused
(70_reset_and_hazards.md R552, 92_eei_decisions.md D28). -/
def loadRom (image : List Byte) (s : State) : Result :=
  if image.length ≤ Config.busSize then .next { s with mem := s.mem.writeList 0 image }
  else .refused (.romImageTooLong image.length)

/-- Power-on with a ROM image: every state element at its reset value, then the image over a prefix of the
zero-filled bus (10_state.md R49, 70_reset_and_hazards.md R550 to R552). -/
def powerOn (image : List Byte) : Result := loadRom image State.reset

/-- The direct memory interface: a byte written between steps (20_memory.md R99). -/
def pokeByte (addr : Word) (v : Byte) (s : State) : State := { s with mem := s.mem.write addr.toNat v }

/-- The direct memory interface: a half-word written between steps, little-endian as the bus is
(20_memory.md R99, R85, R86). -/
def pokeWord (addr v : Word) (s : State) : State := pokeByte (addr + 1) (hi8 v) (pokeByte addr (lo8 v) s)

/-- The direct memory interface: a byte read between steps (20_memory.md R99). -/
def peekByte (addr : Word) (s : State) : Byte := s.readByte addr

/-- The direct memory interface: a half-word read between steps (20_memory.md R99, R84). -/
def peekWord (addr : Word) (s : State) : Word := s.readWord addr

/-- The environment's IRQ[4:0] samples at the coming boundaries (60_exceptions.md R503, 00_scope.md R8). -/
def presentIrq (samples : List (BitVec 5)) (s : State) : State := { s with irqInput := samples }

/-- The "human-readable snapshot (program counter, stack pointer, all registers and pairs)", the flags, and
the hidden state a model's observation may read (10_state.md R50). -/
structure Snapshot where
  pc : Word
  sp : Word
  a : Byte
  f : Byte
  b : Byte
  c : Byte
  d : Byte
  e : Byte
  h : Byte
  l : Byte
  af : Word
  bc : Word
  de : Word
  hl : Word
  flagZ : Bool
  flagN : Bool
  flagH : Bool
  flagC : Bool
  ime : Bool
  eiPending : Bool
  locked : Bool
deriving DecidableEq, Repr

/-- The snapshot of a state (10_state.md R50). -/
def snapshot (s : State) : Snapshot where
  pc := s.pc
  sp := s.sp
  a := s.a
  f := s.f
  b := s.b
  c := s.c
  d := s.d
  e := s.e
  h := s.h
  l := s.l
  af := s.af
  bc := s.bc
  de := s.de
  hl := s.hl
  flagZ := flagZ s.f
  flagN := flagN s.f
  flagH := flagH s.f
  flagC := flagC s.f
  ime := s.ime
  eiPending := s.eiPending
  locked := s.locked

end Sys2Proof.Machine
end

