-- ==== Sys2Proof/Safety.lean ====
section
/-! DEFINITION. What counts as a legal state and as a safe run, and the classes of instructions that the
spec's whole-machine rules name (10_state.md R35, R42, R44; 44_control.md R380). -/

namespace Sys2Proof.Machine

/-- The record of IllegalOpcode stands exactly while the core is locked, and names one of the eleven
unassigned opcodes (60_exceptions.md R501, 45_system.md R420, R421). -/
def State.lockLegal (s : State) : Bool :=
  match s.illegalOpcode with
  | none => !s.locked
  | some r => s.locked && unassignedOpcodes.contains r.opcode

/-- The invariant of the machine: the bus contents are canonical, F's low nibble is zero (10_state.md R41),
and the lock and its record agree (10_state.md R46). -/
def State.legal (s : State) : Bool := s.mem.wf && (s.f &&& 0x0F#8 == 0) && s.lockLegal

/-- The core can go on: it has not executed an unassigned opcode ("A model reports the state as faulted",
45_system.md R421). A safe run is one whose every state is running. -/
def State.running (s : State) : Bool := !s.locked

end Sys2Proof.Machine

namespace Sys2Proof

/-- The instructions that may write a flag: those of 40_alu8.md, ADD HL,rr, ADD SP,e8, LD HL,SP+e8, the
rotates, shifts, SWAP and BIT, POP AF, and the CB prefix as its instruction; "No other instruction changes
F" (10_state.md R42). -/
def Instr.writesFlags (i : Instr) : Bool :=
  decide (207 ≤ i.rule ∧ i.rule ≤ 240) || decide (284 ≤ i.rule ∧ i.rule ≤ 305) || [261, 265, 266, 354, 415].contains i.rule

/-- The instructions that write IME or ei_pending: DI, EI and RETI (10_state.md R44, R45). -/
def Instr.writesIme : Instr → Bool
  | .di | .ei | .reti => true
  | _ => false

/-- The instructions that write SP (10_state.md R35). -/
def Instr.writesSp (i : Instr) : Bool :=
  match i with
  | .ld_SP_d16 _ | .inc_SP | .dec_SP => true
  | j => [265, 351, 352, 353, 354, 386, 387, 388, 389, 390, 391].contains j.rule

/-- The instructions that may store to memory: those of 20_memory.md R88 that write, and the CB prefix as
its instruction. -/
def Instr.storesMemory (i : Instr) : Bool :=
  [234, 236, 289, 291, 293, 295, 297, 299, 301, 303, 307, 309, 333, 334, 337, 338, 340, 342, 344, 347, 348, 350, 352,
    386, 387, 391, 415].contains i.rule

/-- The control transfers: JP, JR, CALL, RET, RETI and RST (44_control.md R380). -/
def Instr.transfersControl (i : Instr) : Bool := decide (381 ≤ i.rule ∧ i.rule ≤ 391)

end Sys2Proof
end

