-- ==== Sys2Proof/Certificates/Slice0/Obligations.lean ====
section
/-! DEFINITION. The statements for the provers. Each formalises numbered rules of the spec; OBLIGATIONS.json
names them.
First the words the statements share, then the statements. A statement about an instruction has its encoding
as its first clause, and then, for EVERY state and operand, that `exec` answers a next state `t`, what `t`
holds, and that the rest of the state is as it was.
In a statement `t = { s with x := …, f := t.f, mem := t.mem }` every field but those named is unchanged; what
the named ones hold is said by the other clauses. PC is the address of the byte after the instruction, before
and after, unless the instruction writes it (00_scope.md R17).
A clause about `bus` says which transactions the rule's reads and writes drive, in the order and kind of
20_memory.md R98 and R99; that State records them is the model's form (assumption log 6). -/

namespace Sys2Proof.Statement

open Sys2Proof.Machine

/-- The four flags after an instruction, and F's low nibble as before (10_state.md R40). -/
def FlagsAre (z n h c : Bool) (s t : State) : Prop :=
  flagZ t.f = z ∧ flagN t.f = n ∧ flagH t.f = h ∧ flagC t.f = c ∧ t.f &&& 0x0F#8 = s.f &&& 0x0F#8

/-- Nothing but F, the general registers, memory and the port's record differs. -/
def SameControl (s t : State) : Prop :=
  t.pc = s.pc ∧ t.sp = s.sp ∧ t.ime = s.ime ∧ t.eiPending = s.eiPending ∧ t.locked = s.locked ∧
    t.irqInput = s.irqInput ∧ t.irqAck = s.irqAck ∧ t.illegalOpcode = s.illegalOpcode

/-- Every byte of memory reads as before. -/
def SameMemory (s t : State) : Prop := ∀ x : Word, t.readByte x = s.readByte x

/-- `v` is written to the operand `o` and to nothing else among the registers A to L and the bytes of memory:
a register, or the byte at the address that HL holds BEFORE the instruction. -/
def WritesOnly (o : Operand8) (v : Byte) (s t : State) : Prop :=
  match o with
  | .reg r => t.reg r = v ∧ (∀ q, q ≠ r → t.reg q = s.reg q) ∧ SameMemory s t
  | .mHL => (∀ q, t.reg q = s.reg q) ∧ t.readByte s.hl = v ∧ ∀ x, x ≠ s.hl → t.readByte x = s.readByte x

/-- The word `v` is in memory at `x` and `x + 1` (modulo 65536), low byte first, and every other byte reads
as before. -/
def StoresWord (x v : Word) (s t : State) : Prop :=
  (t.readByte x).toNat = v.toNat % 256 ∧ (t.readByte (x + 1)).toNat = v.toNat / 256 ∧
    ∀ y, y ≠ x → y ≠ x + 1 → t.readByte y = s.readByte y

/-- The byte `v` is in memory at `x`, and every other byte reads as before. -/
def StoresByte (x : Word) (v : Byte) (s t : State) : Prop :=
  t.readByte x = v ∧ ∀ y, y ≠ x → t.readByte y = s.readByte y

/-- The port's record of storing the word `v` at `x`: the low byte first (20_memory.md R85, R98). -/
def wordWrites (x v : Word) : List BusTxn :=
  [.write .data x (BitVec.ofNat 8 v.toNat), .write .data (x + 1) (BitVec.ofNat 8 (v.toNat / 256))]

/-- The port's record of reading the word at `x`: the low byte first (20_memory.md R84, R98). -/
def wordReads (x : Word) (s : State) : List BusTxn :=
  [.read .data x (s.readByte x), .read .data (x + 1) (s.readByte (x + 1))]

/-- ADD and ADC: A is the sum with the carry-in modulo 256, H and C the carries out of bits 3 and 7. -/
def SumOutcome (i : Instr) (v : Byte) (cin : Bool) (reads : List BusTxn) (s : State) : Prop :=
  ∃ t, exec i s = .next t ∧
    t = { s with a := t.a, f := t.f, bus := s.bus ++ reads } ∧
    t.a.toNat = (s.a.toNat + v.toNat + cin.toNat) % 256 ∧
    FlagsAre (t.a == 0) false (decide (s.a.toNat % 16 + v.toNat % 16 + cin.toNat > 0x0F))
      (decide (s.a.toNat + v.toNat + cin.toNat > 0xFF)) s t

/-- SUB, SBC and CP: the difference with the carry-in modulo 256, H and C the borrows; `keepsA` for CP, which
discards the result. -/
def DifferenceOutcome (i : Instr) (v : Byte) (cin keepsA : Bool) (reads : List BusTxn) (s : State) : Prop :=
  ∃ t, exec i s = .next t ∧
    ∃ res : Byte, (res.toNat : Int) = ((s.a.toNat : Int) - v.toNat - cin.toNat) % 256 ∧
    t = { s with a := if keepsA then s.a else res, f := t.f, bus := s.bus ++ reads } ∧
    FlagsAre (res == 0) true (decide (s.a.toNat % 16 < v.toNat % 16 + cin.toNat))
      (decide (s.a.toNat < v.toNat + cin.toNat)) s t

/-- AND, XOR and OR: A bit by bit, N and C cleared, H as given. -/
def LogicOutcome (i : Instr) (v : Byte) (bit : Bool → Bool → Bool) (h : Bool) (reads : List BusTxn) (s : State) : Prop :=
  ∃ t, exec i s = .next t ∧
    t = { s with a := t.a, f := t.f, bus := s.bus ++ reads } ∧
    (∀ k, k < 8 → t.a.getLsbD k = bit (s.a.getLsbD k) (v.getLsbD k)) ∧
    FlagsAre (t.a == 0) false h false s t

/-- The result of a rotate, shift or SWAP of a byte's value `v`, as a number (42_rotate_shift_bit.md R280). -/
def rotated (op : RotOp) (v : Nat) (cin : Bool) : Nat :=
  match op with
  | .rlc => 2 * v % 256 + v / 128
  | .rrc => v / 2 + 128 * (v % 2)
  | .rl => 2 * v % 256 + cin.toNat
  | .rr => v / 2 + 128 * cin.toNat
  | .sla => 2 * v % 256
  | .sra => v / 2 + 128 * (v / 128)
  | .swap => 16 * (v % 16) + v / 16
  | .srl => v / 2

/-- The bit that a rotate, shift or SWAP of a byte's value `v` moves to C (42_rotate_shift_bit.md R280). -/
def rotatedOut (op : RotOp) (v : Nat) : Bool :=
  match op with
  | .rlc | .rl | .sla => decide (v / 128 = 1)
  | .rrc | .rr | .sra | .srl => decide (v % 2 = 1)
  | .swap => false

/-- What CB rotate `op` on operand `o` does (42_rotate_shift_bit.md R281, R283). -/
def RotateOutcome (op : RotOp) (o : Operand8) (s : State) : Prop :=
  ∃ t, exec (rotRow op o) s = .next t ∧
    ∃ res : Byte, res.toNat = rotated op (operandValue o s).toNat (flagC s.f) ∧
    WritesOnly o res s t ∧ SameControl s t ∧
    t.bus = s.bus ++ operandReads o s ++ operandWrites o res s ∧
    FlagsAre (res == 0) false false (rotatedOut op (operandValue o s).toNat) s t

/-- A byte that holds two decimal digits (40_alu8.md R241: every nibble at most 9). -/
def Bcd (v : Byte) : Prop := v.toNat / 16 ≤ 9 ∧ v.toNat % 16 ≤ 9

/-- The number that two decimal digits spell. -/
def bcdValue (v : Byte) : Nat := 10 * (v.toNat / 16) + v.toNat % 16

/-- The instruction starts at PC: the core runs, no interrupt is accepted at this boundary, and the bytes at
PC decode to `i`. -/
def Runs (i : Instr) (s : State) : Prop :=
  s.locked = false ∧ acceptedLine s = none ∧ ∃ rest, decode (bytesAt s s.pc 3) = .ok (i, rest)

/-- The state in which `i` executes: the EI delay has ended, the sample of IRQ is used up, and the bytes of
`i` have been fetched, so that PC is past them (30_encoding.md R122, 60_exceptions.md R510). -/
def fetched (i : Instr) (s : State) : State :=
  { s with
    pc := s.pc + BitVec.ofNat 16 (encode i).length
    ime := s.ime || s.eiPending
    eiPending := false
    irqInput := s.irqInput.tail
    bus := fetchReads s s.pc (encode i).length }

/-- The bytes of a ROM image at an address, zero past its end (70_reset_and_hazards.md R552). -/
def imageByte (image : List Byte) (x : Word) : Byte := image.getD x.toNat 0

/-- The bus contents after the write transactions of a port's record, in order. -/
def replay (txns : List BusTxn) (m : Memory) : Memory :=
  txns.foldl (fun m txn => match txn with | .read _ _ _ => m | .write _ x v => m.write x.toNat v) m

end Sys2Proof.Statement

open Sys2Proof Sys2Proof.Machine Sys2Proof.Statement

/-! ## Encoding -/

/-- 30_encoding.md R135, R136: words written out from the grids decode to the instruction they stand for. -/
def Obligations.DecodeReadsTheGridsWords : Prop :=
  decode [0x00] = .ok (.nop, []) ∧ decode [0x01, 0x34, 0x12] = .ok (.ld_BC_d16 0x1234, []) ∧
    decode [0x20, 0xFC, 0x00] = .ok (.jr_NZ_e8 0xFC, [0x00]) ∧ decode [0x76] = .ok (.halt, []) ∧
    decode [0x10, 0xD3] = .ok (.stop 0xD3, []) ∧ decode [0x8E] = .ok (.adc_A_mHL, []) ∧
    decode [0xC6, 0xFF] = .ok (.add_A_d8 0xFF, []) ∧ decode [0xE0, 0x80] = .ok (.ldh_ma8_A 0x80, []) ∧
    decode [0xF1] = .ok (.pop_AF, []) ∧ decode [0xF8, 0x02] = .ok (.ld_HL_SPe8 0x02, []) ∧
    decode [0xCD, 0x00, 0x02] = .ok (.call_a16 0x0200, []) ∧ decode [0xCB, 0xCB] = .ok (.set_1_E, []) ∧
    decode [0xCB, 0x37] = .ok (.swap_A, []) ∧ decode [0xD3] = .ok (.illegal 0xD3, []) ∧
    decode [0xCD, 0x00] = .error (.truncated 0xCD)

/-- 30_encoding.md R120 to R124, R131 to R136: the encoder, written from the grids, and the decoder, written
from the fields, agree on every well-formed instruction with every operand. -/
def Obligations.DecodeOfEncodeIsTheInstruction : Prop :=
  ∀ (i : Instr) (rest : List Byte), i.wellFormed = true → decode (encode i ++ rest) = .ok (i, rest)

/-- 30_encoding.md R123, R137: bytes that decode are the encoding of what they decode to, which is
well-formed; and any three bytes decode, so the opcode table has no hole. -/
def Obligations.DecodedBytesAreTheEncodingAndEveryOpcodeDecodes : Prop :=
  (∀ (bytes rest : List Byte) (i : Instr), decode bytes = .ok (i, rest) → bytes = encode i ++ rest ∧ i.wellFormed = true) ∧
    ∀ (op b1 b2 : Byte) (rest : List Byte), ∃ i after, decode (op :: b1 :: b2 :: rest) = .ok (i, after)

/-! ## The step -/

/-- 60_exceptions.md R510, 30_encoding.md R122: a step of a running core at which no interrupt is accepted
executes the instruction that the bytes at PC decode to, once PC is past its bytes. -/
def Obligations.StepRunsTheDecodedInstruction : Prop :=
  ∀ (s : State) (i : Instr), Runs i s → step s = exec i (fetched i s)

/-- 60_exceptions.md R504, R506, R511: with IME = 1, the lowest-numbered requested line is entered: IME and
ei_pending are cleared, PC is pushed, PC is the vector and the line is acknowledged, and nothing else
changes. -/
def Obligations.InterruptEntryPushesPcAndJumpsToTheVector : Prop :=
  ∀ (s : State) (n : Fin 5), s.locked = false → s.ime = true → s.irqSample.getLsbD n.val = true →
    (∀ m : Nat, m < n.val → s.irqSample.getLsbD m = false) →
    ∃ t, step s = .next t ∧
      t = { s with ime := false, eiPending := false, sp := s.sp - 2, pc := t.pc, irqAck := some n, mem := t.mem, irqInput := s.irqInput.tail, bus := wordWrites (s.sp - 2) s.pc } ∧
      t.pc.toNat = 0x40 + 8 * n.val ∧ StoresWord (s.sp - 2) s.pc s t

/-- 60_exceptions.md R504: with IME = 0 the interrupt input has no effect on a step (that the input is a list of
samples of which a step uses up one is the model's choice, assumption log 1). -/
def Obligations.MaskedRequestsHaveNoEffect : Prop :=
  ∀ (s t : State) (irq irq' : List (BitVec 5)), s.ime = false → step { s with irqInput := irq } = .next t →
    step { s with irqInput := irq' } = .next { t with irqInput := irq'.tail }

/-- 10_state.md R45, 45_system.md R414: EI sets ei_pending, and DI and interrupt entry clear it. In the next step, which
takes no interrupt while IME = 0 whatever is requested, IME is 1 and ei_pending 0 before the instruction executes,
and stay so unless the instruction writes them; a request sampled after it is entered, unless it was DI or ILLEGAL. -/
def Obligations.EiTakesEffectAfterTheNextInstruction : Prop :=
  (∀ s : State, exec .ei s = .next { s with eiPending := true } ∧
      (∃ t, exec .di s = .next t ∧ t.ime = false ∧ t.eiPending = false) ∧
      (∀ n, (enterInterrupt n s).ime = false ∧ (enterInterrupt n s).eiPending = false) ∧
      (s.ime = false → acceptedLine s = none)) ∧
    ∀ (s : State) (i : Instr) (rest : List Byte), s.locked = false → acceptedLine s = none → s.eiPending = true →
      decode (bytesAt s s.pc 3) = .ok (i, rest) →
      (fetched i s).ime = true ∧ (fetched i s).eiPending = false ∧
        ∃ t, step s = .next t ∧ exec i (fetched i s) = .next t ∧
          (i.writesIme = false → t.ime = true ∧ t.eiPending = false) ∧
          (i ≠ .di → (∀ op, i ≠ .illegal op) →
            ∀ n, lowestLine t.irqSample = some n → ∃ u, step t = .next u ∧ u.irqAck = some n ∧ u.pc = irqVector n)

/-- 60_exceptions.md R500, R510, 45_system.md R421: a running core always completes its step; a locked core
completes none, and reports the fault that locked it (that it reports by stopping is the model's choice,
assumption log 2). -/
def Obligations.OnlyALockedCoreStops : Prop :=
  ∀ s : State, (s.locked = false → ∃ t, step s = .next t) ∧
    (s.locked = true → step s = .fault (.illegalOpcode s.illegalOpcode))

/-- 10_state.md R49, 70_reset_and_hazards.md R551, R552: power-on gives every register and hidden bit its reset
value and leaves the ROM image over a zero-filled bus, its bytes writable like any other; an image longer than the
bus is refused. -/
def Obligations.PowerOnGivesTheResetValuesAndTheImage : Prop :=
  ∀ image : List Byte,
    (image.length ≤ 0x10000 →
      ∃ t, powerOn image = .next t ∧
        t.pc = 0x0100 ∧ t.sp = 0xFFFE ∧ t.a = 0 ∧ t.f = 0 ∧ t.b = 0 ∧ t.c = 0 ∧ t.d = 0 ∧ t.e = 0 ∧ t.h = 0 ∧ t.l = 0 ∧
        t.af = 0 ∧ t.bc = 0 ∧ t.de = 0 ∧ t.hl = 0 ∧ flagZ t.f = false ∧ flagN t.f = false ∧ flagH t.f = false ∧ flagC t.f = false ∧
        t.ime = false ∧ t.eiPending = false ∧ t.locked = false ∧ (∀ x : Word, t.readByte x = imageByte image x) ∧
        ∀ (x : Word) (v : Byte), StoresByte x v t (t.store8 x v)) ∧
    (0x10000 < image.length → powerOn image = .refused (.romImageTooLong image.length))

/-! ## Invariants -/

/-- The reset state is legal (10_state.md R41, R49; that its fault record is none is the model's choice, assumption
log 4). -/
def Obligations.ResetIsLegal : Prop := State.reset.legal = true

/-- 10_state.md R41, R46, 60_exceptions.md R501: every step of every legal state keeps it legal: the bus
contents canonical, F's low nibble zero, the record of IllegalOpcode there exactly while locked and naming an
unassigned opcode. -/
def Obligations.EveryStepKeepsTheStateLegal : Prop :=
  ∀ s t : State, s.legal = true → step s = .next t → t.legal = true

/-! ## Memory -/

/-- 20_memory.md R83 to R86: a byte store changes that byte only; a word store puts the low byte at the address
and the high byte at the next one, modulo 65536; a word read takes them back in that order. -/
def Obligations.WordsAreLittleEndianAndWrapAtTheTop : Prop :=
  ∀ (s : State) (x v : Word) (b : Byte),
    StoresByte x b s (s.store8 x b) ∧ StoresWord x v s (s.store16 x v) ∧ (s.store16 x v).readWord x = v ∧
      (s.readWord x).toNat = (s.readByte x).toNat + 256 * (s.readByte (x + 1)).toNat

/-- 20_memory.md R98, R99: in every step the port's record holds the fetches first, in increasing address order from
PC on, then the data transactions; and its writes, replayed in order on the bus contents before the step, give
those after it (that State keeps the record of the last step is the model's choice, assumption log 6). -/
def Obligations.TheBusPortAccountsForEveryStore : Prop :=
  ∀ s t : State, step s = .next t →
    t.mem = replay t.bus s.mem ∧
      ∃ n data, n ≤ 3 ∧ t.bus = fetchReads s s.pc n ++ data ∧
        ∀ x ∈ data, ∃ a v, x = .read .data a v ∨ x = .write .data a v

/-- 20_memory.md R99, 60_exceptions.md R521: the direct memory interface reads and writes bytes and half-words of memory
between steps and writes nothing else; what it writes is little-endian, and the bus contents stay canonical. -/
def Obligations.DirectMemoryAccessTouchesMemoryOnly : Prop :=
  ∀ (s : State) (x v : Word) (b : Byte), ∃ t u, pokeByte x b s = t ∧ pokeWord x v s = u ∧
    t = { s with mem := t.mem } ∧ u = { s with mem := u.mem } ∧ StoresByte x b s t ∧ StoresWord x v s u ∧
    peekByte x t = b ∧ peekWord x u = v ∧ (s.mem.wf = true → t.mem.wf = true ∧ u.mem.wf = true)

/-! ## 8-bit arithmetic and logic -/

/-- 40_alu8.md R201, R207 to R212: ADD and ADC in their r, (HL) and d8 forms. -/
def Obligations.AddAndAdcGiveTheSum : Prop :=
  (∀ o, encode (aluRow .add o) = [0x80 + operandCode o] ∧ encode (aluRow .adc o) = [0x88 + operandCode o]) ∧
    (∀ d, encode (aluImmRow .add d) = [0xC6, d] ∧ encode (aluImmRow .adc d) = [0xCE, d]) ∧
    (∀ o s, SumOutcome (aluRow .add o) (operandValue o s) false (operandReads o s) s) ∧
    (∀ o s, SumOutcome (aluRow .adc o) (operandValue o s) (flagC s.f) (operandReads o s) s) ∧
    (∀ d s, SumOutcome (aluImmRow .add d) d false [] s) ∧ ∀ d s, SumOutcome (aluImmRow .adc d) d (flagC s.f) [] s

/-- 40_alu8.md R202, R213 to R218: SUB and SBC in their r, (HL) and d8 forms. -/
def Obligations.SubAndSbcGiveTheDifference : Prop :=
  (∀ o, encode (aluRow .sub o) = [0x90 + operandCode o] ∧ encode (aluRow .sbc o) = [0x98 + operandCode o]) ∧
    (∀ d, encode (aluImmRow .sub d) = [0xD6, d] ∧ encode (aluImmRow .sbc d) = [0xDE, d]) ∧
    (∀ o s, DifferenceOutcome (aluRow .sub o) (operandValue o s) false false (operandReads o s) s) ∧
    (∀ o s, DifferenceOutcome (aluRow .sbc o) (operandValue o s) (flagC s.f) false (operandReads o s) s) ∧
    (∀ d s, DifferenceOutcome (aluImmRow .sub d) d false false [] s) ∧
    ∀ d s, DifferenceOutcome (aluImmRow .sbc d) d (flagC s.f) false [] s

/-- 40_alu8.md R228 to R230: CP in its r, (HL) and d8 forms writes the flags of SUB and nothing else. -/
def Obligations.CpWritesTheFlagsOfTheDifference : Prop :=
  (∀ o, encode (aluRow .cp o) = [0xB8 + operandCode o]) ∧ (∀ d, encode (aluImmRow .cp d) = [0xFE, d]) ∧
    (∀ o s, DifferenceOutcome (aluRow .cp o) (operandValue o s) false true (operandReads o s) s) ∧
    ∀ d s, DifferenceOutcome (aluImmRow .cp d) d false true [] s

/-- 40_alu8.md R203 to R205, R219 to R227: AND, XOR and OR in their r, (HL) and d8 forms. -/
def Obligations.AndXorOrWorkBitByBit : Prop :=
  (∀ o, encode (aluRow .and o) = [0xA0 + operandCode o] ∧ encode (aluRow .xor o) = [0xA8 + operandCode o] ∧
      encode (aluRow .or o) = [0xB0 + operandCode o]) ∧
    (∀ d, encode (aluImmRow .and d) = [0xE6, d] ∧ encode (aluImmRow .xor d) = [0xEE, d] ∧ encode (aluImmRow .or d) = [0xF6, d]) ∧
    (∀ o s, LogicOutcome (aluRow .and o) (operandValue o s) and true (operandReads o s) s ∧
      LogicOutcome (aluRow .xor o) (operandValue o s) xor false (operandReads o s) s ∧
      LogicOutcome (aluRow .or o) (operandValue o s) or false (operandReads o s) s) ∧
    ∀ d s, LogicOutcome (aluImmRow .and d) d and true [] s ∧ LogicOutcome (aluImmRow .xor d) d xor false [] s ∧
      LogicOutcome (aluImmRow .or d) d or false [] s

/-- 40_alu8.md R231 to R236: INC and DEC of a register and of (HL); C is not written. -/
def Obligations.IncAndDecStepTheOperandAndKeepC : Prop :=
  (∀ o, encode (incRow o) = [0x04 + 8 * operandCode o] ∧ encode (decRow o) = [0x05 + 8 * operandCode o]) ∧
    (∀ o s, ∃ t, exec (incRow o) s = .next t ∧ ∃ res : Byte, res.toNat = ((operandValue o s).toNat + 1) % 256 ∧
      WritesOnly o res s t ∧ SameControl s t ∧ t.bus = s.bus ++ operandReads o s ++ operandWrites o res s ∧
      FlagsAre (res == 0) false (decide ((operandValue o s).toNat % 16 = 15)) (flagC s.f) s t) ∧
    ∀ o s, ∃ t, exec (decRow o) s = .next t ∧ ∃ res : Byte, res.toNat = ((operandValue o s).toNat + 255) % 256 ∧
      WritesOnly o res s t ∧ SameControl s t ∧ t.bus = s.bus ++ operandReads o s ++ operandWrites o res s ∧
      FlagsAre (res == 0) true (decide ((operandValue o s).toNat % 16 = 0)) (flagC s.f) s t

/-- 40_alu8.md R237: DAA adds, or with N = 1 subtracts, 0x06 and 0x60 as H, C and the old A ask. -/
def Obligations.DaaAdjustsByTheFlagsAndTheOldA : Prop :=
  encode .daa = [0x27] ∧
    ∀ s : State, ∃ t, exec .daa s = .next t ∧ t = { s with a := t.a, f := t.f } ∧
      ∃ low high : Bool, low = (flagH s.f || (!flagN s.f && decide (s.a.toNat % 16 > 9))) ∧
        high = (flagC s.f || (!flagN s.f && decide (s.a.toNat > 0x99))) ∧
        (flagN s.f = false → t.a.toNat = (s.a.toNat + 6 * low.toNat + 0x60 * high.toNat) % 256) ∧
        (flagN s.f = true → (t.a.toNat : Int) = ((s.a.toNat : Int) - 6 * low.toNat - 0x60 * high.toNat) % 256) ∧
        FlagsAre (t.a == 0) (flagN s.f) false high s t

/-- 40_alu8.md R238 to R240: CPL complements A and sets N and H; SCF sets and CCF inverts C, clearing N and H;
none writes Z. -/
def Obligations.CplScfCcfKeepZ : Prop :=
  encode .cpl = [0x2F] ∧ encode .scf = [0x37] ∧ encode .ccf = [0x3F] ∧
    (∀ s : State, ∃ t, exec .cpl s = .next t ∧ t = { s with a := t.a, f := t.f } ∧ t.a.toNat = 255 - s.a.toNat ∧
      FlagsAre (flagZ s.f) true true (flagC s.f) s t) ∧
    (∀ s : State, ∃ t, exec .scf s = .next t ∧ t = { s with f := t.f } ∧ FlagsAre (flagZ s.f) false false true s t) ∧
    ∀ s : State, ∃ t, exec .ccf s = .next t ∧ t = { s with f := t.f } ∧ FlagsAre (flagZ s.f) false false (!flagC s.f) s t

/-- 40_alu8.md R241 (BCD): ADD A,v of two packed-BCD bytes and then DAA leave the two low decimal digits of
the sum in A, and C exactly when the decimal sum exceeds 99. -/
def Obligations.DaaAfterAddIsDecimalAddition : Prop :=
  ∀ (s : State) (v : Byte), Bcd s.a → Bcd v →
    ∃ t u, exec (aluImmRow .add v) s = .next t ∧ exec .daa t = .next u ∧
      Bcd u.a ∧ bcdValue u.a = (bcdValue s.a + bcdValue v) % 100 ∧
      flagC u.f = decide (bcdValue s.a + bcdValue v > 99)

/-- 40_alu8.md R241 (round trips; 90_conflicts.md C3): ADD A,v and then SUB v restore A, with Z as A is zero;
INC and then DEC of any register or of (HL) restore its value. -/
def Obligations.AddThenSubAndIncThenDecRestoreTheValue : Prop :=
  (∀ (s : State) (v : Byte), ∃ t u, exec (aluImmRow .add v) s = .next t ∧ exec (aluImmRow .sub v) t = .next u ∧
      u.a = s.a ∧ flagZ u.f = (s.a == 0)) ∧
    ∀ (s : State) (o : Operand8), ∃ t u, exec (incRow o) s = .next t ∧ exec (decRow o) t = .next u ∧
      operandValue o u = operandValue o s ∧ flagZ u.f = (operandValue o s == 0) ∧ flagN u.f = true

/-! ## 16-bit arithmetic -/

/-- 41_alu16.md R260, R261: ADD HL,rr writes HL with the sum modulo 65536, N, H (bit 11) and C (bit 15), and
keeps Z. -/
def Obligations.AddHlGivesTheSumAndKeepsZ : Prop :=
  (∀ p, encode (addHLRow p) = [0x09 + 0x10 * pairCode p]) ∧
    ∀ (p : Pair) (s : State), ∃ t, exec (addHLRow p) s = .next t ∧ t = { s with h := t.h, l := t.l, f := t.f } ∧
      t.hl.toNat = (s.hl.toNat + (s.pair p).toNat) % 65536 ∧
      FlagsAre (flagZ s.f) false (decide (s.hl.toNat % 4096 + (s.pair p).toNat % 4096 > 0x0FFF))
        (decide (s.hl.toNat + (s.pair p).toNat > 0xFFFF)) s t

/-- 41_alu16.md R262, R263: INC rr and DEC rr step the pair modulo 65536 and write no flag and no other
register. -/
def Obligations.IncAndDecOfAPairWriteNoFlag : Prop :=
  (∀ p, encode (incPairRow p) = [0x03 + 0x10 * pairCode p] ∧ encode (decPairRow p) = [0x0B + 0x10 * pairCode p]) ∧
    ∀ (p : Pair) (s : State), ∃ t u, exec (incPairRow p) s = .next t ∧ exec (decPairRow p) s = .next u ∧
      (t.pair p).toNat = ((s.pair p).toNat + 1) % 65536 ∧ (u.pair p).toNat = ((s.pair p).toNat + 65535) % 65536 ∧
      match p with
      | .BC => t = { s with b := t.b, c := t.c } ∧ u = { s with b := u.b, c := u.c }
      | .DE => t = { s with d := t.d, e := t.e } ∧ u = { s with d := u.d, e := u.e }
      | .HL => t = { s with h := t.h, l := t.l } ∧ u = { s with h := u.h, l := u.l }
      | .SP => t = { s with sp := t.sp } ∧ u = { s with sp := u.sp }

/-- 41_alu16.md R264 to R266: ADD SP,e8 and LD HL,SP+e8 add the sign-extended offset; Z and N are cleared, H
and C are the carries of the unsigned addition to SP's low byte. -/
def Obligations.SpPlusOffsetGoesToSpOrHl : Prop :=
  (∀ n, encode (.add_SP_e8 n) = [0xE8, n] ∧ encode (.ld_HL_SPe8 n) = [0xF8, n]) ∧
    ∀ (n : Byte) (s : State), ∃ t u, exec (.add_SP_e8 n) s = .next t ∧ exec (.ld_HL_SPe8 n) s = .next u ∧
      t = { s with sp := t.sp, f := t.f } ∧ u = { s with h := u.h, l := u.l, f := u.f } ∧
      (t.sp.toNat : Int) = ((s.sp.toNat : Int) + n.toInt) % 65536 ∧ u.hl = t.sp ∧ u.f = t.f ∧
      FlagsAre false false (decide (s.sp.toNat % 16 + n.toNat % 16 > 0x0F)) (decide (s.sp.toNat % 256 + n.toNat > 0xFF)) s t

/-! ## Rotates, shifts and bit operations -/

/-- 42_rotate_shift_bit.md R282, R284 to R287: RLCA, RRCA, RLA and RRA rotate A and clear Z whatever the
result. -/
def Obligations.AccumulatorRotatesClearZ : Prop :=
  encode .rlca = [0x07] ∧ encode .rrca = [0x0F] ∧ encode .rla = [0x17] ∧ encode .rra = [0x1F] ∧
    ∀ (s : State), ∀ x ∈ [(Instr.rlca, RotOp.rlc), (.rrca, .rrc), (.rla, .rl), (.rra, .rr)],
      ∃ t, exec x.1 s = .next t ∧ t = { s with a := t.a, f := t.f } ∧
        t.a.toNat = rotated x.2 s.a.toNat (flagC s.f) ∧ FlagsAre false false false (rotatedOut x.2 s.a.toNat) s t

/-- 42_rotate_shift_bit.md R288, R290, R292, R294, R296, R298, R300, R302 with R280 and R281: the CB rotates,
shifts and SWAP of a register. -/
def Obligations.CbRotatesAndShiftsOfARegister : Prop :=
  (∀ op r, encode (rotRow op (.reg r)) = [0xCB, 8 * rotCode op + operandCode (.reg r)]) ∧
    ∀ (op : RotOp) (r : Reg) (s : State), RotateOutcome op (.reg r) s

/-- 42_rotate_shift_bit.md R289, R291, R293, R295, R297, R299, R301, R303 with R280 and R281: the CB rotates,
shifts and SWAP of the byte at HL: one read, one write. -/
def Obligations.CbRotatesAndShiftsOfTheByteAtHl : Prop :=
  (∀ op, encode (rotRow op .mHL) = [0xCB, 8 * rotCode op + 6]) ∧
    ∀ (op : RotOp) (s : State), RotateOutcome op .mHL s

/-- 42_rotate_shift_bit.md R304, R305: BIT sets Z to the complement of the tested bit, clears N, sets H, keeps
C, and writes neither register nor memory. -/
def Obligations.BitTestsOneBit : Prop :=
  (∀ b o, encode (bitRow b o) = [0xCB, 0x40 + 8 * BitVec.ofNat 8 b.val + operandCode o]) ∧
    ∀ (b : Fin 8) (o : Operand8) (s : State), ∃ t, exec (bitRow b o) s = .next t ∧
      t = { s with f := t.f, bus := s.bus ++ operandReads o s } ∧
      FlagsAre (decide ((operandValue o s).toNat / 2 ^ b.val % 2 = 0)) false true (flagC s.f) s t

/-- 42_rotate_shift_bit.md R306 to R309: RES clears and SET sets bit b of the operand, keeps its other bits, and
writes no flag. -/
def Obligations.ResAndSetWriteOneBit : Prop :=
  (∀ b o, encode (resRow b o) = [0xCB, 0x80 + 8 * BitVec.ofNat 8 b.val + operandCode o] ∧
      encode (setRow b o) = [0xCB, 0xC0 + 8 * BitVec.ofNat 8 b.val + operandCode o]) ∧
    ∀ (b : Fin 8) (o : Operand8) (s : State), ∀ x ∈ [(resRow b o, false), (setRow b o, true)],
      ∃ t, exec x.1 s = .next t ∧ ∃ res : Byte,
        (∀ k, k < 8 → res.getLsbD k = if k = b.val then x.2 else (operandValue o s).getLsbD k) ∧
        WritesOnly o res s t ∧ SameControl s t ∧ t.f = s.f ∧
        t.bus = s.bus ++ operandReads o s ++ operandWrites o res s

/-! ## Loads, stores and the stack -/

/-- 43_loads_stack.md R330, R332, R333: LD r,r', LD r,(HL) and LD (HL),r copy the source to the destination and
change nothing else; 0x76 is not among them. -/
def Obligations.LdCopiesTheSource : Prop :=
  ∀ (dst src : Operand8), ¬(dst = .mHL ∧ src = .mHL) →
    encode (ldRow dst src) = [0x40 + 8 * operandCode dst + operandCode src] ∧
    ∀ s : State, ∃ t, exec (ldRow dst src) s = .next t ∧ WritesOnly dst (operandValue src s) s t ∧ SameControl s t ∧
      t.f = s.f ∧ t.bus = s.bus ++ operandReads src s ++ operandWrites dst (operandValue src s) s

/-- 43_loads_stack.md R331, R334: LD r,d8 and LD (HL),d8 write the immediate to the destination and change
nothing else. -/
def Obligations.LdImmediateWritesTheByte : Prop :=
  ∀ (o : Operand8) (d : Byte), encode (ldImmRow o d) = [0x06 + 8 * operandCode o, d] ∧
    ∀ s : State, ∃ t, exec (ldImmRow o d) s = .next t ∧ WritesOnly o d s t ∧ SameControl s t ∧ t.f = s.f ∧
      t.bus = s.bus ++ operandWrites o d s

/-- 43_loads_stack.md R335, R336, R339, R341, R343, R345, R346: the loads of A through BC, DE, an absolute
address, the 0xFF00 page, and HL with post-increment or post-decrement. -/
def Obligations.LoadsOfAReadTheirAddress : Prop :=
  encode .ld_A_mBC = [0x0A] ∧ encode .ld_A_mDE = [0x1A] ∧ encode .ld_A_mHLI = [0x2A] ∧ encode .ld_A_mHLD = [0x3A] ∧
    encode .ldh_A_mC = [0xF2] ∧ (∀ n, encode (.ldh_A_ma8 n) = [0xF0, n]) ∧
    (∀ w : Word, encode (.ld_A_ma16 w) = [0xFA, BitVec.ofNat 8 w.toNat, BitVec.ofNat 8 (w.toNat / 256)]) ∧
    ∀ (s : State) (w : Word) (n : Byte),
      (∀ x ∈ [(Instr.ld_A_mBC, s.bc), (.ld_A_mDE, s.de), (.ld_A_ma16 w, w),
          (.ldh_A_mC, BitVec.ofNat 16 (0xFF00 + s.c.toNat)), (.ldh_A_ma8 n, BitVec.ofNat 16 (0xFF00 + n.toNat))],
        exec x.1 s = .next { s with a := s.readByte x.2, bus := s.bus ++ [.read .data x.2 (s.readByte x.2)] }) ∧
      (∀ x ∈ [(Instr.ld_A_mHLI, 1), (.ld_A_mHLD, 65535)],
        ∃ t, exec x.1 s = .next t ∧
          t = { s with a := s.readByte s.hl, h := t.h, l := t.l, bus := s.bus ++ [.read .data s.hl (s.readByte s.hl)] } ∧
          t.hl.toNat = (s.hl.toNat + x.2) % 65536)

/-- 43_loads_stack.md R337, R338, R340, R342, R344, R347, R348: the stores of A through BC, DE, an absolute
address, the 0xFF00 page, and HL with post-increment or post-decrement. -/
def Obligations.StoresOfAWriteTheirAddress : Prop :=
  encode .ld_mBC_A = [0x02] ∧ encode .ld_mDE_A = [0x12] ∧ encode .ld_mHLI_A = [0x22] ∧ encode .ld_mHLD_A = [0x32] ∧
    encode .ldh_mC_A = [0xE2] ∧ (∀ n, encode (.ldh_ma8_A n) = [0xE0, n]) ∧
    (∀ w : Word, encode (.ld_ma16_A w) = [0xEA, BitVec.ofNat 8 w.toNat, BitVec.ofNat 8 (w.toNat / 256)]) ∧
    ∀ (s : State) (w : Word) (n : Byte),
      (∀ x ∈ [(Instr.ld_mBC_A, s.bc), (.ld_mDE_A, s.de), (.ld_ma16_A w, w),
          (.ldh_mC_A, BitVec.ofNat 16 (0xFF00 + s.c.toNat)), (.ldh_ma8_A n, BitVec.ofNat 16 (0xFF00 + n.toNat))],
        ∃ t, exec x.1 s = .next t ∧ t = { s with mem := t.mem, bus := s.bus ++ [.write .data x.2 s.a] } ∧
          StoresByte x.2 s.a s t) ∧
      (∀ x ∈ [(Instr.ld_mHLI_A, 1), (.ld_mHLD_A, 65535)],
        ∃ t, exec x.1 s = .next t ∧
          t = { s with h := t.h, l := t.l, mem := t.mem, bus := s.bus ++ [.write .data s.hl s.a] } ∧
          t.hl.toNat = (s.hl.toNat + x.2) % 65536 ∧ StoresByte s.hl s.a s t)

/-- 43_loads_stack.md R349 to R351: LD rr,d16, LD (a16),SP and LD SP,HL. -/
def Obligations.SixteenBitLoads : Prop :=
  (∀ p (w : Word), encode (ldPairRow p w) = [0x01 + 0x10 * pairCode p, BitVec.ofNat 8 w.toNat, BitVec.ofNat 8 (w.toNat / 256)]) ∧
    (∀ w : Word, encode (.ld_ma16_SP w) = [0x08, BitVec.ofNat 8 w.toNat, BitVec.ofNat 8 (w.toNat / 256)]) ∧
    encode .ld_SP_HL = [0xF9] ∧
    (∀ (s : State) (w : Word),
      exec (ldPairRow .BC w) s = .next { s with b := BitVec.ofNat 8 (w.toNat / 256), c := BitVec.ofNat 8 w.toNat } ∧
      exec (ldPairRow .DE w) s = .next { s with d := BitVec.ofNat 8 (w.toNat / 256), e := BitVec.ofNat 8 w.toNat } ∧
      exec (ldPairRow .HL w) s = .next { s with h := BitVec.ofNat 8 (w.toNat / 256), l := BitVec.ofNat 8 w.toNat } ∧
      exec (ldPairRow .SP w) s = .next { s with sp := w }) ∧
    (∀ (s : State) (w : Word), ∃ t, exec (.ld_ma16_SP w) s = .next t ∧
      t = { s with mem := t.mem, bus := s.bus ++ wordWrites w s.sp } ∧ StoresWord w s.sp s t) ∧
    ∀ s : State, exec .ld_SP_HL s = .next { s with sp := s.hl }

/-- 43_loads_stack.md R352: PUSH decrements SP by 2 modulo 65536 and writes the pair at the new SP, AF among
them. -/
def Obligations.PushStoresThePairBelowSp : Prop :=
  (∀ p, encode (pushRow p) = [0xC5 + 0x10 * stackPairCode p]) ∧
    ∀ (p : StackPair) (s : State), ∃ t, exec (pushRow p) s = .next t ∧
      t = { s with sp := t.sp, mem := t.mem, bus := s.bus ++ wordWrites t.sp (s.stackPair p) } ∧
      t.sp.toNat = (s.sp.toNat + 65534) % 65536 ∧ StoresWord t.sp (s.stackPair p) s t

/-- 43_loads_stack.md R353, R354: POP reads the word at SP into the pair and increments SP by 2 modulo 65536;
POP AF drops the popped low nibble, and only it writes the flags. -/
def Obligations.PopLoadsThePairAndAfDropsTheLowNibble : Prop :=
  (∀ p, encode (popRow p) = [0xC1 + 0x10 * stackPairCode p]) ∧
    ∀ s : State,
      exec (popRow .BC) s = .next { s with b := s.readByte (s.sp + 1), c := s.readByte s.sp, sp := s.sp + 2, bus := s.bus ++ wordReads s.sp s } ∧
      exec (popRow .DE) s = .next { s with d := s.readByte (s.sp + 1), e := s.readByte s.sp, sp := s.sp + 2, bus := s.bus ++ wordReads s.sp s } ∧
      exec (popRow .HL) s = .next { s with h := s.readByte (s.sp + 1), l := s.readByte s.sp, sp := s.sp + 2, bus := s.bus ++ wordReads s.sp s } ∧
      ∃ t, exec (popRow .AF) s = .next t ∧
        t = { s with a := s.readByte (s.sp + 1), f := t.f, sp := s.sp + 2, bus := s.bus ++ wordReads s.sp s } ∧
        t.f.toNat = 16 * ((s.readByte s.sp).toNat / 16)

/-- 43_loads_stack.md R355: Pop16 after Push16 returns the word and restores SP, for every word and every SP; so
does POP after PUSH of any pair, into AF the word without its low nibble. -/
def Obligations.PopAfterPushReturnsTheWord : Prop :=
  (∀ (v : Word) (s : State), (pop16 (push16 v s)).1 = v ∧ (pop16 (push16 v s)).2.sp = s.sp) ∧
  ∀ (p q : StackPair) (s : State), ∃ t u, exec (pushRow p) s = .next t ∧ exec (popRow q) t = .next u ∧ u.sp = s.sp ∧
    (q ≠ .AF → u.stackPair q = s.stackPair p) ∧ (q = .AF → u.af = s.stackPair p &&& 0xFFF0#16)

/-- 10_state.md R36 to R38: the pairs are views of the registers: a pair read is its first register's byte above
its second's, a pair write changes both, and AF's write stores F with a zero low nibble. -/
def Obligations.PairsAreViewsOfTheRegisters : Prop :=
  ∀ (s : State) (v : Word),
    s.af.toNat = 256 * s.a.toNat + s.f.toNat ∧ s.bc.toNat = 256 * s.b.toNat + s.c.toNat ∧
      s.de.toNat = 256 * s.d.toNat + s.e.toNat ∧ s.hl.toNat = 256 * s.h.toNat + s.l.toNat ∧
      (∀ p, (s.setPair p v).pair p = v) ∧ (∀ p, p ≠ .AF → (s.setStackPair p v).stackPair p = v) ∧
      (s.setAF v).a.toNat = v.toNat / 256 ∧ (s.setAF v).f.toNat = 16 * (v.toNat % 256 / 16)

/-! ## Control transfer -/

/-- 44_control.md R381 to R385: JP, JP cc, JP HL, JR and JR cc; a transfer that is not taken changes nothing. -/
def Obligations.JumpsWritePcWhenTaken : Prop :=
  (∀ w : Word, encode (.jp_a16 w) = [0xC3, BitVec.ofNat 8 w.toNat, BitVec.ofNat 8 (w.toNat / 256)]) ∧
    (∀ c (w : Word), encode (jpRow c w) = [0xC2 + 8 * condCode c, BitVec.ofNat 8 w.toNat, BitVec.ofNat 8 (w.toNat / 256)]) ∧
    (∀ n, encode (.jr_e8 n) = [0x18, n]) ∧ (∀ c n, encode (jrRow c n) = [0x20 + 8 * condCode c, n]) ∧ encode .jp_HL = [0xE9] ∧
    ∀ (s : State) (w : Word) (n : Byte),
      exec (.jp_a16 w) s = .next { s with pc := w } ∧ exec .jp_HL s = .next { s with pc := s.hl } ∧
      (∃ t, exec (.jr_e8 n) s = .next t ∧ t = { s with pc := t.pc } ∧ (t.pc.toNat : Int) = ((s.pc.toNat : Int) + n.toInt) % 65536 ∧
        ∀ c, exec (jrRow c n) s = .next (if cond c s.f then t else s)) ∧
      ∀ c, exec (jpRow c w) s = .next (if cond c s.f then { s with pc := w } else s)

/-- 30_encoding.md R128: the four conditions and their codes. -/
def Obligations.ConditionsReadZAndC : Prop :=
  condOf 0 = .NZ ∧ condOf 1 = .Z ∧ condOf 2 = .NC ∧ condOf 3 = .C ∧ ∀ f : Byte, cond .NZ f = decide (f.toNat / 128 = 0) ∧ cond .Z f = decide (f.toNat / 128 = 1) ∧
    cond .NC f = decide (f.toNat / 16 % 2 = 0) ∧ cond .C f = decide (f.toNat / 16 % 2 = 1)

/-- 44_control.md R386, R387, R391: CALL, a taken CALL cc and RST push the address of the next instruction and
jump; a CALL cc not taken changes neither SP nor memory nor PC. -/
def Obligations.CallsPushTheReturnAddress : Prop :=
  (∀ w : Word, encode (.call_a16 w) = [0xCD, BitVec.ofNat 8 w.toNat, BitVec.ofNat 8 (w.toNat / 256)]) ∧
    (∀ c (w : Word), encode (callRow c w) = [0xC4 + 8 * condCode c, BitVec.ofNat 8 w.toNat, BitVec.ofNat 8 (w.toNat / 256)]) ∧
    (∀ y : Fin 8, encode (rstRow y) = [0xC7 + 8 * BitVec.ofNat 8 y.val]) ∧
    (∀ (s : State) (w : Word), ∃ t, exec (.call_a16 w) s = .next t ∧
      t = { s with sp := t.sp, pc := w, mem := t.mem, bus := s.bus ++ wordWrites t.sp s.pc } ∧
      t.sp.toNat = (s.sp.toNat + 65534) % 65536 ∧ StoresWord t.sp s.pc s t ∧
      ∀ c, exec (callRow c w) s = .next (if cond c s.f then t else s)) ∧
    ∀ (s : State) (y : Fin 8), ∃ t, exec (rstRow y) s = .next t ∧
      t = { s with sp := t.sp, pc := t.pc, mem := t.mem, bus := s.bus ++ wordWrites t.sp s.pc } ∧
      t.pc.toNat = 8 * y.val ∧ t.sp.toNat = (s.sp.toNat + 65534) % 65536 ∧ StoresWord t.sp s.pc s t

/-- 44_control.md R388 to R390: RET, a taken RET cc and RETI pop PC; RETI also sets IME to 1 at once; a RET cc not
taken changes nothing. -/
def Obligations.ReturnsPopPc : Prop :=
  encode .ret = [0xC9] ∧ encode .reti = [0xD9] ∧ (∀ c, encode (retRow c) = [0xC0 + 8 * condCode c]) ∧
    ∀ s : State, ∃ t, exec .ret s = .next t ∧ t = { s with pc := t.pc, sp := s.sp + 2, bus := s.bus ++ wordReads s.sp s } ∧
      t.pc.toNat = (s.readByte s.sp).toNat + 256 * (s.readByte (s.sp + 1)).toNat ∧
      (∀ c, exec (retRow c) s = .next (if cond c s.f then t else s)) ∧
      exec .reti s = .next { t with ime := true }

/-! ## System instructions -/

/-- 45_system.md R410 to R412: NOP, HALT and STOP are advances: executing them changes nothing more. -/
def Obligations.NopHaltStopOnlyAdvance : Prop :=
  encode .nop = [0x00] ∧ encode .halt = [0x76] ∧ (∀ ignored, encode (.stop ignored) = [0x10, ignored]) ∧
    ∀ (s : State) (ignored : Byte), exec .nop s = .next s ∧ exec .halt s = .next s ∧ exec (.stop ignored) s = .next s

/-- 45_system.md R413, R414: DI clears IME and a pending EI; EI only sets ei_pending. -/
def Obligations.DiAndEiWriteTheInterruptEnable : Prop :=
  encode .di = [0xF3] ∧ encode .ei = [0xFB] ∧
    ∀ s : State, exec .di s = .next { s with ime := false, eiPending := false } ∧
      exec .ei s = .next { s with eiPending := true }

/-- 45_system.md R415: the prefix executes the CB-table entry of its second byte: the instruction that the two
bytes decode to, which is never the prefix itself (0xCB again is SET 1,E). In a step at which 0xCB stands at PC and
no interrupt is accepted, the second byte is fetched and its entry executed in the same step. -/
def Obligations.PrefixCbExecutesTheCbTableEntry : Prop :=
  decode [0xCB, 0xCB] = .ok (.set_1_E, []) ∧
    (∀ (op2 : Byte) (s : State), ∃ i t, decode (encode (.prefix_CB op2)) = .ok (i, []) ∧ i.wellFormed = true ∧
      encode i = [0xCB, op2] ∧ exec (.prefix_CB op2) s = .next t ∧ exec i s = .next t) ∧
    ∀ s : State, s.locked = false → acceptedLine s = none → s.readByte s.pc = 0xCB →
      ∃ t, step s = .next t ∧
        exec (.prefix_CB (s.readByte (s.pc + 1))) (fetched (.prefix_CB (s.readByte (s.pc + 1))) s) = .next t

/-- 45_system.md R420, 60_exceptions.md R501: an unassigned opcode locks the core and records the opcode and its
address, and changes no register, flag, memory byte or IME. -/
def Obligations.UnassignedOpcodesLockTheCore : Prop :=
  unassignedOpcodes = [0xD3, 0xDB, 0xDD, 0xE3, 0xE4, 0xEB, 0xEC, 0xED, 0xF4, 0xFC, 0xFD] ∧
    (∀ op ∈ unassignedOpcodes, decode [op] = .ok (.illegal op, [])) ∧
    ∀ (op : Byte) (s : State), exec (.illegal op) s = .next { s with locked := true, illegalOpcode := some ⟨op, s.pc - 1⟩ }

/-! ## Whole-machine rules -/

/-- 10_state.md R42: no instruction outside the listed ones changes F, nor does interrupt entry. -/
def Obligations.OnlyTheListedInstructionsWriteFlags : Prop :=
  (∀ (i : Instr) (s t : State), i.writesFlags = false → exec i s = .next t → t.f = s.f) ∧
    ∀ (n : Fin 5) (s : State), (enterInterrupt n s).f = s.f

/-- 10_state.md R44, R45, R46: no instruction but DI, EI and RETI changes IME or ei_pending, and none but ILLEGAL
locks the core. -/
def Obligations.OnlyTheListedInstructionsWriteTheHiddenState : Prop :=
  ∀ (i : Instr) (s t : State), exec i s = .next t →
    (i.writesIme = false → t.ime = s.ime ∧ t.eiPending = s.eiPending) ∧
      ((∀ op, i ≠ .illegal op) → t.locked = s.locked ∧ t.illegalOpcode = s.illegalOpcode)

/-- 10_state.md R35, 20_memory.md R88: no instruction outside the listed ones changes SP, and none outside the
listed stores changes a byte of memory or drives a write on the bus port. -/
def Obligations.OnlyTheListedInstructionsWriteSpOrMemory : Prop :=
  ∀ (i : Instr) (s t : State), exec i s = .next t →
    (i.writesSp = false → t.sp = s.sp) ∧
      (i.storesMemory = false → SameMemory s t ∧ ∃ reads, t.bus = s.bus ++ reads ∧ ∀ x ∈ reads, ∃ a v, x = .read .data a v)

/-- 10_state.md R34: a step that executes an instruction other than a control transfer leaves PC at its start
address plus its length, modulo 65536, and its length is 1, 2 or 3. -/
def Obligations.PcAdvancesByTheLength : Prop :=
  ∀ (s t : State) (i : Instr), Runs i s → i.transfersControl = false → step s = .next t →
    t.pc.toNat = (s.pc.toNat + (encode i).length) % 65536 ∧ 1 ≤ (encode i).length ∧ (encode i).length ≤ 3
end

