-- ==== Sys2Proof/Laws/Bits.lean ====
section
/-! SUPPORT. Words and their halves (00_scope.md R11), sign extension (R12), and the flag bits of F
(10_state.md R40). -/

namespace Sys2Proof

/-! ## Words and their halves -/

theorem mkWord_toNat (x y : Byte) : (mkWord x y).toNat = x.toNat * 256 + y.toNat := by
  have hx := x.isLt
  have hy := y.isLt
  have h : x.toNat * 256 + y.toNat = x.toNat * 256 ||| y.toNat := by
    have := Nat.two_pow_add_eq_or_of_lt (i := 8) (b := y.toNat) hy x.toNat
    rw [Nat.mul_comm]
    exact this
  rw [h]
  simp [mkWord, BitVec.toNat_setWidth, Nat.shiftLeft_eq]
  rw [Nat.mod_eq_of_lt (a := x.toNat * 256) (by omega), Nat.mod_eq_of_lt (a := y.toNat) (by omega)]

theorem hi8_toNat (v : Word) : (hi8 v).toNat = v.toNat / 256 := by
  have := v.isLt
  simp [hi8, BitVec.extractLsb'_toNat, Nat.shiftRight_eq_div_pow]
  omega

theorem lo8_toNat (v : Word) : (lo8 v).toNat = v.toNat % 256 := by
  simp [lo8, BitVec.extractLsb'_toNat]

@[simp] theorem mkWord_hi8_lo8 (v : Word) : mkWord (hi8 v) (lo8 v) = v := by
  apply BitVec.eq_of_toNat_eq
  rw [mkWord_toNat, hi8_toNat, lo8_toNat]
  omega

@[simp] theorem hi8_mkWord (x y : Byte) : hi8 (mkWord x y) = x := by
  apply BitVec.eq_of_toNat_eq
  have := y.isLt
  rw [hi8_toNat, mkWord_toNat]
  omega

@[simp] theorem lo8_mkWord (x y : Byte) : lo8 (mkWord x y) = y := by
  apply BitVec.eq_of_toNat_eq
  have := y.isLt
  rw [lo8_toNat, mkWord_toNat]
  omega

theorem ofNat8_toNat (v : Word) : BitVec.ofNat 8 v.toNat = lo8 v := BitVec.eq_of_toNat_eq (by simp [lo8_toNat])

theorem ofNat8_toNat_div (v : Word) : BitVec.ofNat 8 (v.toNat / 256) = hi8 v := BitVec.eq_of_toNat_eq (by
  have := v.isLt
  rw [BitVec.toNat_ofNat, hi8_toNat]
  omega)

theorem word_ne_add_one (x : Word) : x ≠ x + 1 := by
  intro h
  have h' := congrArg BitVec.toNat h
  have := x.isLt
  simp [BitVec.toNat_add] at h'
  omega

end Sys2Proof

namespace Sys2Proof.Machine

/-! ## The flag bits of F: each write sets its own bit and keeps the others -/

theorem putBit_getLsbD (i j : Nat) (b : Bool) (f : Byte) (hi : i < 8) :
    (putBit i b f).getLsbD j = if j = i then b else f.getLsbD j := by
  unfold putBit
  by_cases hj : j < 8
  · cases b <;> by_cases h : j = i <;> simp [h, hi, hj] <;> omega
  · simp [BitVec.getLsbD_of_ge, show 8 ≤ j by omega, show j ≠ i by omega]

theorem putBit_and_low (i : Nat) (b : Bool) (f : Byte) (h4 : 4 ≤ i) (hi : i < 8) : putBit i b f &&& 0x0F#8 = f &&& 0x0F#8 := by
  apply BitVec.eq_of_getLsbD_eq
  intro j hj
  simp only [BitVec.getLsbD_and, putBit_getLsbD i j b f hi]
  by_cases h : j = i
  · subst h
    have : (0x0F#8).getLsbD j = false := by
      match j, h4, hi with
      | 4, _, _ => rfl
      | 5, _, _ => rfl
      | 6, _, _ => rfl
      | 7, _, _ => rfl
    simp [this]
  · simp [h]

@[simp] theorem flagZ_setZ (b : Bool) (f : Byte) : flagZ (setZ b f) = b := (putBit_getLsbD 7 7 b f (by omega)).trans (if_pos rfl)
@[simp] theorem flagN_setZ (b : Bool) (f : Byte) : flagN (setZ b f) = flagN f := (putBit_getLsbD 7 6 b f (by omega)).trans (if_neg (by omega))
@[simp] theorem flagH_setZ (b : Bool) (f : Byte) : flagH (setZ b f) = flagH f := (putBit_getLsbD 7 5 b f (by omega)).trans (if_neg (by omega))
@[simp] theorem flagC_setZ (b : Bool) (f : Byte) : flagC (setZ b f) = flagC f := (putBit_getLsbD 7 4 b f (by omega)).trans (if_neg (by omega))
@[simp] theorem setZ_and_low (b : Bool) (f : Byte) : setZ b f &&& 0x0F#8 = f &&& 0x0F#8 := putBit_and_low 7 b f (by omega) (by omega)
@[simp] theorem flagZ_setN (b : Bool) (f : Byte) : flagZ (setN b f) = flagZ f := (putBit_getLsbD 6 7 b f (by omega)).trans (if_neg (by omega))
@[simp] theorem flagN_setN (b : Bool) (f : Byte) : flagN (setN b f) = b := (putBit_getLsbD 6 6 b f (by omega)).trans (if_pos rfl)
@[simp] theorem flagH_setN (b : Bool) (f : Byte) : flagH (setN b f) = flagH f := (putBit_getLsbD 6 5 b f (by omega)).trans (if_neg (by omega))
@[simp] theorem flagC_setN (b : Bool) (f : Byte) : flagC (setN b f) = flagC f := (putBit_getLsbD 6 4 b f (by omega)).trans (if_neg (by omega))
@[simp] theorem setN_and_low (b : Bool) (f : Byte) : setN b f &&& 0x0F#8 = f &&& 0x0F#8 := putBit_and_low 6 b f (by omega) (by omega)
@[simp] theorem flagZ_setH (b : Bool) (f : Byte) : flagZ (setH b f) = flagZ f := (putBit_getLsbD 5 7 b f (by omega)).trans (if_neg (by omega))
@[simp] theorem flagN_setH (b : Bool) (f : Byte) : flagN (setH b f) = flagN f := (putBit_getLsbD 5 6 b f (by omega)).trans (if_neg (by omega))
@[simp] theorem flagH_setH (b : Bool) (f : Byte) : flagH (setH b f) = b := (putBit_getLsbD 5 5 b f (by omega)).trans (if_pos rfl)
@[simp] theorem flagC_setH (b : Bool) (f : Byte) : flagC (setH b f) = flagC f := (putBit_getLsbD 5 4 b f (by omega)).trans (if_neg (by omega))
@[simp] theorem setH_and_low (b : Bool) (f : Byte) : setH b f &&& 0x0F#8 = f &&& 0x0F#8 := putBit_and_low 5 b f (by omega) (by omega)
@[simp] theorem flagZ_setC (b : Bool) (f : Byte) : flagZ (setC b f) = flagZ f := (putBit_getLsbD 4 7 b f (by omega)).trans (if_neg (by omega))
@[simp] theorem flagN_setC (b : Bool) (f : Byte) : flagN (setC b f) = flagN f := (putBit_getLsbD 4 6 b f (by omega)).trans (if_neg (by omega))
@[simp] theorem flagH_setC (b : Bool) (f : Byte) : flagH (setC b f) = flagH f := (putBit_getLsbD 4 5 b f (by omega)).trans (if_neg (by omega))
@[simp] theorem flagC_setC (b : Bool) (f : Byte) : flagC (setC b f) = b := (putBit_getLsbD 4 4 b f (by omega)).trans (if_pos rfl)
@[simp] theorem setC_and_low (b : Bool) (f : Byte) : setC b f &&& 0x0F#8 = f &&& 0x0F#8 := putBit_and_low 4 b f (by omega) (by omega)
@[simp] theorem flagZ_setFlags (z n h c : Bool) (f : Byte) : flagZ (setFlags z n h c f) = z := by simp [setFlags]
@[simp] theorem flagN_setFlags (z n h c : Bool) (f : Byte) : flagN (setFlags z n h c f) = n := by simp [setFlags]
@[simp] theorem flagH_setFlags (z n h c : Bool) (f : Byte) : flagH (setFlags z n h c f) = h := by simp [setFlags]
@[simp] theorem flagC_setFlags (z n h c : Bool) (f : Byte) : flagC (setFlags z n h c f) = c := by simp [setFlags]
@[simp] theorem setFlags_and_low (z n h c : Bool) (f : Byte) : setFlags z n h c f &&& 0x0F#8 = f &&& 0x0F#8 := by simp [setFlags]

/-- F is its four flags and its low nibble (10_state.md R40). -/
theorem byte_eq_of_flags (f g : Byte) (hz : flagZ f = flagZ g) (hn : flagN f = flagN g) (hh : flagH f = flagH g)
    (hc : flagC f = flagC g) (hl : f &&& 0x0F#8 = g &&& 0x0F#8) : f = g := by
  apply BitVec.eq_of_getLsbD_eq
  intro i hi
  have low : ∀ j, j < 4 → f.getLsbD j = g.getLsbD j := by
    intro j hj
    have := congrArg (fun x : Byte => x.getLsbD j) hl
    simp only [BitVec.getLsbD_and] at this
    match j, hj with
    | 0, _ | 1, _ | 2, _ | 3, _ => simpa using this
  match i, hi with
  | 0, _ => exact low 0 (by omega)
  | 1, _ => exact low 1 (by omega)
  | 2, _ => exact low 2 (by omega)
  | 3, _ => exact low 3 (by omega)
  | 4, _ => exact hc
  | 5, _ => exact hh
  | 6, _ => exact hn
  | 7, _ => exact hz

/-! ## Every flag computation keeps the low nibble of F -/

@[simp] theorem add8_and_low (a v : Byte) (cin : Bool) (f : Byte) : (add8 a v cin f).2 &&& 0x0F#8 = f &&& 0x0F#8 := by simp [add8]
@[simp] theorem sub8_and_low (a v : Byte) (cin : Bool) (f : Byte) : (sub8 a v cin f).2 &&& 0x0F#8 = f &&& 0x0F#8 := by simp [sub8]
@[simp] theorem and8_and_low (a v f : Byte) : (and8 a v f).2 &&& 0x0F#8 = f &&& 0x0F#8 := by simp [and8]
@[simp] theorem or8_and_low (a v f : Byte) : (or8 a v f).2 &&& 0x0F#8 = f &&& 0x0F#8 := by simp [or8]
@[simp] theorem xor8_and_low (a v f : Byte) : (xor8 a v f).2 &&& 0x0F#8 = f &&& 0x0F#8 := by simp [xor8]
@[simp] theorem inc8_and_low (v f : Byte) : (inc8 v f).2 &&& 0x0F#8 = f &&& 0x0F#8 := by simp [inc8]
@[simp] theorem dec8_and_low (v f : Byte) : (dec8 v f).2 &&& 0x0F#8 = f &&& 0x0F#8 := by simp [dec8]
@[simp] theorem daa_and_low (a f : Byte) : (daa a f).2 &&& 0x0F#8 = f &&& 0x0F#8 := by simp [daa]
@[simp] theorem cpl_and_low (a f : Byte) : (cpl a f).2 &&& 0x0F#8 = f &&& 0x0F#8 := by simp [cpl]
@[simp] theorem add16_and_low (h v : Word) (f : Byte) : (add16 h v f).2 &&& 0x0F#8 = f &&& 0x0F#8 := by simp [add16]
@[simp] theorem addsp_and_low (sp : Word) (n f : Byte) : (addsp sp n f).2 &&& 0x0F#8 = f &&& 0x0F#8 := by simp [addsp]
@[simp] theorem aluResult_and_low (op : AluOp) (a v f : Byte) : (aluResult op a v f).2 &&& 0x0F#8 = f &&& 0x0F#8 := by cases op <;> simp [aluResult]
@[simp] theorem scf_and_low (f : Byte) : scf f &&& 0x0F#8 = f &&& 0x0F#8 := by simp [scf]
@[simp] theorem ccf_and_low (f : Byte) : ccf f &&& 0x0F#8 = f &&& 0x0F#8 := by simp [ccf]
@[simp] theorem cbflags_and_low (r : Byte) (o : Bool) (f : Byte) : cbflags r o f &&& 0x0F#8 = f &&& 0x0F#8 := by simp [cbflags]
@[simp] theorem aflags_and_low (o : Bool) (f : Byte) : aflags o f &&& 0x0F#8 = f &&& 0x0F#8 := by simp [aflags]
@[simp] theorem bitFlags_and_low (b : Bool) (f : Byte) : bitFlags b f &&& 0x0F#8 = f &&& 0x0F#8 := by simp [bitFlags]

/-- The AF setter's mask leaves a zero low nibble (10_state.md R41). -/
theorem and_F0_and_low (v : Byte) : v &&& 0xF0#8 &&& 0x0F#8 = 0 := by
  rw [BitVec.and_assoc]
  simp

end Sys2Proof.Machine
end

