-- ==== Sys2Proof/Laws/Flags.lean ====
section
/-! SUPPORT. One lemma per ALU helper (Machine/Flags.lean): its result as a number and its four flags, which later
proofs cite instead of unfolding the helper. That each keeps F's low nibble is in Laws/Bits.lean. -/

namespace Sys2Proof

/-! ## Sign and zero extension (00_scope.md R12) -/

theorem sext16_toInt (v : Byte) : (sext16 v).toInt = v.toInt := by revert v; decide

theorem sext16_toNat (v : Byte) : ((sext16 v).toNat : Int) = v.toInt % 65536 := by revert v; decide

/-- An offset is added with its sign, modulo 65536. -/
theorem add_sext16_toNat (x : Word) (v : Byte) : ((x + sext16 v).toNat : Int) = ((x.toNat : Int) + v.toInt) % 65536 := by
  rw [BitVec.toNat_add, Int.natCast_mod, Int.natCast_add, sext16_toNat]
  omega

end Sys2Proof

namespace Sys2Proof.Machine

/-! ## Addition (40_alu8.md R201) -/

theorem add8_toNat (a v : Byte) (cin : Bool) (f : Byte) : (add8 a v cin f).1.toNat = (a.toNat + v.toNat + cin.toNat) % 256 := by
  simp [add8]

theorem add8_flags (a v : Byte) (cin : Bool) (f : Byte) :
    (add8 a v cin f).2 = setFlags ((add8 a v cin f).1 == 0) false (decide (a.toNat % 16 + v.toNat % 16 + cin.toNat > 0x0F))
      (decide (a.toNat + v.toNat + cin.toNat > 0xFF)) f := rfl

/-! ## Subtraction (40_alu8.md R202) -/

theorem sub8_toNat (a v : Byte) (cin : Bool) (f : Byte) :
    ((sub8 a v cin f).1.toNat : Int) = ((a.toNat : Int) - v.toNat - cin.toNat) % 256 := by
  simp only [sub8, BitVec.toNat_ofInt]
  omega

theorem sub8_flags (a v : Byte) (cin : Bool) (f : Byte) :
    (sub8 a v cin f).2 = setFlags ((sub8 a v cin f).1 == 0) true (decide (a.toNat % 16 < v.toNat % 16 + cin.toNat))
      (decide (a.toNat < v.toNat + cin.toNat)) f := by
  have hh : decide (((a.toNat % 16 : Nat) : Int) - (v.toNat % 16 : Nat) - cin.toNat < 0) = decide (a.toNat % 16 < v.toNat % 16 + cin.toNat) :=
    decide_eq_decide.mpr (by omega)
  have hc : decide ((a.toNat : Int) - v.toNat - cin.toNat < 0) = decide (a.toNat < v.toNat + cin.toNat) :=
    decide_eq_decide.mpr (by omega)
  simp only [sub8, hh, hc]

/-! ## Logic (40_alu8.md R203 to R205) -/

theorem and8_bit (a v f : Byte) (k : Nat) : (and8 a v f).1.getLsbD k = (a.getLsbD k && v.getLsbD k) := by simp [and8]

theorem or8_bit (a v f : Byte) (k : Nat) : (or8 a v f).1.getLsbD k = (a.getLsbD k || v.getLsbD k) := by simp [or8]

theorem xor8_bit (a v f : Byte) (k : Nat) : (xor8 a v f).1.getLsbD k = xor (a.getLsbD k) (v.getLsbD k) := by simp [xor8]

theorem and8_flags (a v f : Byte) : (and8 a v f).2 = setFlags ((and8 a v f).1 == 0) false true false f := rfl

theorem or8_flags (a v f : Byte) : (or8 a v f).2 = setFlags ((or8 a v f).1 == 0) false false false f := rfl

theorem xor8_flags (a v f : Byte) : (xor8 a v f).2 = setFlags ((xor8 a v f).1 == 0) false false false f := rfl

/-! ## INC, DEC, DAA and the flag instructions (40_alu8.md R231, R232, R237 to R240) -/

theorem inc8_toNat (v f : Byte) : (inc8 v f).1.toNat = (v.toNat + 1) % 256 := by simp [inc8]

theorem inc8_flags (v f : Byte) :
    (inc8 v f).2 = setH (decide (v.toNat % 16 = 15)) (setN false (setZ ((inc8 v f).1 == 0) f)) := rfl

theorem dec8_toNat (v f : Byte) : (dec8 v f).1.toNat = (v.toNat + 255) % 256 := by
  revert v
  simp only [dec8]
  decide

theorem dec8_flags (v f : Byte) :
    (dec8 v f).2 = setH (decide (v.toNat % 16 = 0)) (setN true (setZ ((dec8 v f).1 == 0) f)) := rfl

/-- The low adjustment of DAA (40_alu8.md R237). -/
def daaLow (a f : Byte) : Bool := flagH f || (!flagN f && decide (a.toNat % 16 > 9))

/-- The high adjustment of DAA, which is also its carry (40_alu8.md R237). -/
def daaHigh (a f : Byte) : Bool := flagC f || (!flagN f && decide (a.toNat > 0x99))

theorem daa_flags (a f : Byte) : (daa a f).2 = setC (daaHigh a f) (setH false (setZ ((daa a f).1 == 0) f)) := rfl

theorem daa_toNat_add (a f : Byte) (h : flagN f = false) :
    (daa a f).1.toNat = (a.toNat + 6 * (daaLow a f).toNat + 0x60 * (daaHigh a f).toNat) % 256 := by
  show (if flagN f = true then a - (_ ||| _) else a + ((if daaLow a f = true then 0x06 else 0x00) ||| (if daaHigh a f = true then 0x60 else 0x00))).toNat = _
  rw [h]
  cases daaLow a f <;> cases daaHigh a f <;> simp [BitVec.toNat_add, Nat.mod_eq_of_lt a.isLt]

theorem daa_toNat_sub (a f : Byte) (h : flagN f = true) :
    ((daa a f).1.toNat : Int) = ((a.toNat : Int) - 6 * (daaLow a f).toNat - 0x60 * (daaHigh a f).toNat) % 256 := by
  show ((if flagN f = true then a - ((if daaLow a f = true then 0x06 else 0x00) ||| (if daaHigh a f = true then 0x60 else 0x00)) else _).toNat : Int) = _
  rw [h]
  have := a.isLt
  cases daaLow a f <;> cases daaHigh a f <;> simp [BitVec.toNat_sub] <;> omega

theorem cpl_toNat (a f : Byte) : (cpl a f).1.toNat = 255 - a.toNat := by simp [cpl, BitVec.toNat_not]

theorem cpl_flags (a f : Byte) : (cpl a f).2 = setH true (setN true f) := rfl

/-! ## 16-bit arithmetic (41_alu16.md R260, R264) -/

theorem add16_toNat (x v : Word) (f : Byte) : (add16 x v f).1.toNat = (x.toNat + v.toNat) % 65536 := by simp [add16]

theorem add16_flags (x v : Word) (f : Byte) :
    (add16 x v f).2 = setC (decide (x.toNat + v.toNat > 0xFFFF)) (setH (decide (x.toNat % 4096 + v.toNat % 4096 > 0x0FFF)) (setN false f)) := rfl

theorem addsp_toNat (sp : Word) (n f : Byte) : ((addsp sp n f).1.toNat : Int) = ((sp.toNat : Int) + n.toInt) % 65536 :=
  add_sext16_toNat sp n

theorem addsp_flags (sp : Word) (n f : Byte) :
    (addsp sp n f).2 = setFlags false false (decide (sp.toNat % 16 + n.toNat % 16 > 0x0F)) (decide (sp.toNat % 256 + n.toNat > 0xFF)) f := rfl

/-! ## Rotates and shifts (42_rotate_shift_bit.md R280) -/

theorem rotate_rlc (v : Byte) (c : Bool) :
    (rotate .rlc v c).1.toNat = 2 * v.toNat % 256 + v.toNat / 128 ∧ (rotate .rlc v c).2 = decide (v.toNat / 128 = 1) := by
  revert v; cases c <;> decide

theorem rotate_rrc (v : Byte) (c : Bool) :
    (rotate .rrc v c).1.toNat = v.toNat / 2 + 128 * (v.toNat % 2) ∧ (rotate .rrc v c).2 = decide (v.toNat % 2 = 1) := by
  revert v; cases c <;> decide

theorem rotate_rl (v : Byte) (c : Bool) :
    (rotate .rl v c).1.toNat = 2 * v.toNat % 256 + c.toNat ∧ (rotate .rl v c).2 = decide (v.toNat / 128 = 1) := by
  revert v; cases c <;> decide

theorem rotate_rr (v : Byte) (c : Bool) :
    (rotate .rr v c).1.toNat = v.toNat / 2 + 128 * c.toNat ∧ (rotate .rr v c).2 = decide (v.toNat % 2 = 1) := by
  revert v; cases c <;> decide

theorem rotate_sla (v : Byte) (c : Bool) :
    (rotate .sla v c).1.toNat = 2 * v.toNat % 256 ∧ (rotate .sla v c).2 = decide (v.toNat / 128 = 1) := by
  revert v; cases c <;> decide

theorem rotate_sra (v : Byte) (c : Bool) :
    (rotate .sra v c).1.toNat = v.toNat / 2 + 128 * (v.toNat / 128) ∧ (rotate .sra v c).2 = decide (v.toNat % 2 = 1) := by
  revert v; cases c <;> decide

theorem rotate_swap (v : Byte) (c : Bool) :
    (rotate .swap v c).1.toNat = 16 * (v.toNat % 16) + v.toNat / 16 ∧ (rotate .swap v c).2 = false := by
  revert v; cases c <;> decide

theorem rotate_srl (v : Byte) (c : Bool) :
    (rotate .srl v c).1.toNat = v.toNat / 2 ∧ (rotate .srl v c).2 = decide (v.toNat % 2 = 1) := by
  revert v; cases c <;> decide

theorem cbflags_eq (r : Byte) (out : Bool) (f : Byte) : cbflags r out f = setFlags (r == 0) false false out f := rfl

theorem aflags_eq (out : Bool) (f : Byte) : aflags out f = setFlags false false false out f := rfl

theorem bitFlags_eq (b : Bool) (f : Byte) : bitFlags b f = setH true (setN false (setZ (!b) f)) := rfl

/-! ## Packed decimal (40_alu8.md R241) -/

/-- The digits of a binary sum of two packed two-digit numbers, once 6 and 0x60 are added as the digits ask. -/
theorem packed_sum (x0 x1 y0 y1 l h r : Nat) (h1 : x1 ≤ 9) (h2 : x0 ≤ 9) (h3 : y1 ≤ 9) (h4 : y0 ≤ 9)
    (hl : (x0 + y0 > 9 ∧ l = 6) ∨ (¬x0 + y0 > 9 ∧ l = 0))
    (hh : (10 * x1 + x0 + (10 * y1 + y0) > 99 ∧ h = 96) ∨ (¬10 * x1 + x0 + (10 * y1 + y0) > 99 ∧ h = 0))
    (hr : r = ((16 * x1 + x0 + (16 * y1 + y0)) % 256 + l + h) % 256) :
    (r / 16 ≤ 9 ∧ r % 16 ≤ 9) ∧ 10 * (r / 16) + r % 16 = (10 * x1 + x0 + (10 * y1 + y0)) % 100 := by
  rcases hl with ⟨c, rfl⟩ | ⟨c, rfl⟩ <;> rcases hh with ⟨d, rfl⟩ | ⟨d, rfl⟩
  · have : r = 16 * (x1 + y1 + 1 - 10) + (x0 + y0 - 10) := by omega
    omega
  · have : r = 16 * (x1 + y1 + 1) + (x0 + y0 - 10) := by omega
    omega
  · have : r = 16 * (x1 + y1 - 10) + (x0 + y0) := by omega
    omega
  · have : r = 16 * (x1 + y1) + (x0 + y0) := by omega
    omega

/-! ## Testing, clearing and setting one bit (42_rotate_shift_bit.md R304 to R309) -/

theorem clearBit_getLsbD (v : Byte) (b k : Nat) (hb : b < 8) : (v &&& ~~~(1#8 <<< b)).getLsbD k = if k = b then false else v.getLsbD k :=
  putBit_getLsbD b k false v hb

theorem setBit_getLsbD (v : Byte) (b k : Nat) (hb : b < 8) : (v ||| (1#8 <<< b)).getLsbD k = if k = b then true else v.getLsbD k :=
  putBit_getLsbD b k true v hb

theorem not_getLsbD (v : Byte) (b : Nat) : (!v.getLsbD b) = decide (v.toNat / 2 ^ b % 2 = 0) := by
  rw [BitVec.getLsbD, Nat.testBit_eq_decide_div_mod_eq]
  by_cases h : v.toNat / 2 ^ b % 2 = 0
  · simp [h]
  · have : v.toNat / 2 ^ b % 2 = 1 := by omega
    simp [this]

end Sys2Proof.Machine
end

