-- ==== Sys2Proof/Laws/State.lean ====
section
/-! SUPPORT. One lemma per field per update of State, so that no later proof unfolds a record update. -/

namespace Sys2Proof.Machine

/-! ### The bus port -/

@[simp] theorem State.noteRead_a (k : BusKind) (x : Word) (s : State) : (s.noteRead k x).a = s.a := rfl
@[simp] theorem State.noteRead_f (k : BusKind) (x : Word) (s : State) : (s.noteRead k x).f = s.f := rfl
@[simp] theorem State.noteRead_b (k : BusKind) (x : Word) (s : State) : (s.noteRead k x).b = s.b := rfl
@[simp] theorem State.noteRead_c (k : BusKind) (x : Word) (s : State) : (s.noteRead k x).c = s.c := rfl
@[simp] theorem State.noteRead_d (k : BusKind) (x : Word) (s : State) : (s.noteRead k x).d = s.d := rfl
@[simp] theorem State.noteRead_e (k : BusKind) (x : Word) (s : State) : (s.noteRead k x).e = s.e := rfl
@[simp] theorem State.noteRead_h (k : BusKind) (x : Word) (s : State) : (s.noteRead k x).h = s.h := rfl
@[simp] theorem State.noteRead_l (k : BusKind) (x : Word) (s : State) : (s.noteRead k x).l = s.l := rfl
@[simp] theorem State.noteRead_pc (k : BusKind) (x : Word) (s : State) : (s.noteRead k x).pc = s.pc := rfl
@[simp] theorem State.noteRead_sp (k : BusKind) (x : Word) (s : State) : (s.noteRead k x).sp = s.sp := rfl
@[simp] theorem State.noteRead_ime (k : BusKind) (x : Word) (s : State) : (s.noteRead k x).ime = s.ime := rfl
@[simp] theorem State.noteRead_eiPending (k : BusKind) (x : Word) (s : State) : (s.noteRead k x).eiPending = s.eiPending := rfl
@[simp] theorem State.noteRead_locked (k : BusKind) (x : Word) (s : State) : (s.noteRead k x).locked = s.locked := rfl
@[simp] theorem State.noteRead_mem (k : BusKind) (x : Word) (s : State) : (s.noteRead k x).mem = s.mem := rfl
@[simp] theorem State.noteRead_irqInput (k : BusKind) (x : Word) (s : State) : (s.noteRead k x).irqInput = s.irqInput := rfl
@[simp] theorem State.noteRead_irqAck (k : BusKind) (x : Word) (s : State) : (s.noteRead k x).irqAck = s.irqAck := rfl
@[simp] theorem State.noteRead_illegalOpcode (k : BusKind) (x : Word) (s : State) : (s.noteRead k x).illegalOpcode = s.illegalOpcode := rfl
@[simp] theorem State.noteRead_bus (k : BusKind) (x : Word) (s : State) : (s.noteRead k x).bus = s.bus ++ [.read k x (s.readByte x)] := rfl

/-! ### One-byte store -/

@[simp] theorem State.store8_a (x : Word) (v : Byte) (s : State) : (s.store8 x v).a = s.a := rfl
@[simp] theorem State.store8_f (x : Word) (v : Byte) (s : State) : (s.store8 x v).f = s.f := rfl
@[simp] theorem State.store8_b (x : Word) (v : Byte) (s : State) : (s.store8 x v).b = s.b := rfl
@[simp] theorem State.store8_c (x : Word) (v : Byte) (s : State) : (s.store8 x v).c = s.c := rfl
@[simp] theorem State.store8_d (x : Word) (v : Byte) (s : State) : (s.store8 x v).d = s.d := rfl
@[simp] theorem State.store8_e (x : Word) (v : Byte) (s : State) : (s.store8 x v).e = s.e := rfl
@[simp] theorem State.store8_h (x : Word) (v : Byte) (s : State) : (s.store8 x v).h = s.h := rfl
@[simp] theorem State.store8_l (x : Word) (v : Byte) (s : State) : (s.store8 x v).l = s.l := rfl
@[simp] theorem State.store8_pc (x : Word) (v : Byte) (s : State) : (s.store8 x v).pc = s.pc := rfl
@[simp] theorem State.store8_sp (x : Word) (v : Byte) (s : State) : (s.store8 x v).sp = s.sp := rfl
@[simp] theorem State.store8_ime (x : Word) (v : Byte) (s : State) : (s.store8 x v).ime = s.ime := rfl
@[simp] theorem State.store8_eiPending (x : Word) (v : Byte) (s : State) : (s.store8 x v).eiPending = s.eiPending := rfl
@[simp] theorem State.store8_locked (x : Word) (v : Byte) (s : State) : (s.store8 x v).locked = s.locked := rfl
@[simp] theorem State.store8_irqInput (x : Word) (v : Byte) (s : State) : (s.store8 x v).irqInput = s.irqInput := rfl
@[simp] theorem State.store8_irqAck (x : Word) (v : Byte) (s : State) : (s.store8 x v).irqAck = s.irqAck := rfl
@[simp] theorem State.store8_illegalOpcode (x : Word) (v : Byte) (s : State) : (s.store8 x v).illegalOpcode = s.illegalOpcode := rfl
@[simp] theorem State.store8_mem (x : Word) (v : Byte) (s : State) : (s.store8 x v).mem = s.mem.write x.toNat v := rfl
@[simp] theorem State.store8_bus (x : Word) (v : Byte) (s : State) : (s.store8 x v).bus = s.bus ++ [.write .data x v] := rfl

/-! ### Word store -/

@[simp] theorem State.store16_a (x v : Word) (s : State) : (s.store16 x v).a = s.a := rfl
@[simp] theorem State.store16_f (x v : Word) (s : State) : (s.store16 x v).f = s.f := rfl
@[simp] theorem State.store16_b (x v : Word) (s : State) : (s.store16 x v).b = s.b := rfl
@[simp] theorem State.store16_c (x v : Word) (s : State) : (s.store16 x v).c = s.c := rfl
@[simp] theorem State.store16_d (x v : Word) (s : State) : (s.store16 x v).d = s.d := rfl
@[simp] theorem State.store16_e (x v : Word) (s : State) : (s.store16 x v).e = s.e := rfl
@[simp] theorem State.store16_h (x v : Word) (s : State) : (s.store16 x v).h = s.h := rfl
@[simp] theorem State.store16_l (x v : Word) (s : State) : (s.store16 x v).l = s.l := rfl
@[simp] theorem State.store16_pc (x v : Word) (s : State) : (s.store16 x v).pc = s.pc := rfl
@[simp] theorem State.store16_sp (x v : Word) (s : State) : (s.store16 x v).sp = s.sp := rfl
@[simp] theorem State.store16_ime (x v : Word) (s : State) : (s.store16 x v).ime = s.ime := rfl
@[simp] theorem State.store16_eiPending (x v : Word) (s : State) : (s.store16 x v).eiPending = s.eiPending := rfl
@[simp] theorem State.store16_locked (x v : Word) (s : State) : (s.store16 x v).locked = s.locked := rfl
@[simp] theorem State.store16_irqInput (x v : Word) (s : State) : (s.store16 x v).irqInput = s.irqInput := rfl
@[simp] theorem State.store16_irqAck (x v : Word) (s : State) : (s.store16 x v).irqAck = s.irqAck := rfl
@[simp] theorem State.store16_illegalOpcode (x v : Word) (s : State) : (s.store16 x v).illegalOpcode = s.illegalOpcode := rfl
@[simp] theorem State.store16_mem (x v : Word) (s : State) : (s.store16 x v).mem = (s.mem.write x.toNat (lo8 v)).write (x + 1).toNat (hi8 v) := rfl
@[simp] theorem State.store16_bus (x v : Word) (s : State) : (s.store16 x v).bus = s.bus ++ [.write .data x (lo8 v), .write .data (x + 1) (hi8 v)] := by simp [State.store16]

/-! ### Push16 -/

@[simp] theorem push16_a (v : Word) (s : State) : (push16 v s).a = s.a := rfl
@[simp] theorem push16_f (v : Word) (s : State) : (push16 v s).f = s.f := rfl
@[simp] theorem push16_b (v : Word) (s : State) : (push16 v s).b = s.b := rfl
@[simp] theorem push16_c (v : Word) (s : State) : (push16 v s).c = s.c := rfl
@[simp] theorem push16_d (v : Word) (s : State) : (push16 v s).d = s.d := rfl
@[simp] theorem push16_e (v : Word) (s : State) : (push16 v s).e = s.e := rfl
@[simp] theorem push16_h (v : Word) (s : State) : (push16 v s).h = s.h := rfl
@[simp] theorem push16_l (v : Word) (s : State) : (push16 v s).l = s.l := rfl
@[simp] theorem push16_pc (v : Word) (s : State) : (push16 v s).pc = s.pc := rfl
@[simp] theorem push16_ime (v : Word) (s : State) : (push16 v s).ime = s.ime := rfl
@[simp] theorem push16_eiPending (v : Word) (s : State) : (push16 v s).eiPending = s.eiPending := rfl
@[simp] theorem push16_locked (v : Word) (s : State) : (push16 v s).locked = s.locked := rfl
@[simp] theorem push16_irqInput (v : Word) (s : State) : (push16 v s).irqInput = s.irqInput := rfl
@[simp] theorem push16_irqAck (v : Word) (s : State) : (push16 v s).irqAck = s.irqAck := rfl
@[simp] theorem push16_illegalOpcode (v : Word) (s : State) : (push16 v s).illegalOpcode = s.illegalOpcode := rfl
@[simp] theorem push16_sp (v : Word) (s : State) : (push16 v s).sp = s.sp - 2 := rfl
@[simp] theorem push16_mem (v : Word) (s : State) : (push16 v s).mem = (s.mem.write (s.sp - 2).toNat (lo8 v)).write (s.sp - 2 + 1).toNat (hi8 v) := rfl
@[simp] theorem push16_bus (v : Word) (s : State) : (push16 v s).bus = s.bus ++ [.write .data (s.sp - 2) (lo8 v), .write .data (s.sp - 2 + 1) (hi8 v)] := by simp [push16]

/-! ### Loads: the value, and the state with the port's record -/

@[simp] theorem State.load8_fst (x : Word) (s : State) : (s.load8 x).1 = s.readByte x := rfl
@[simp] theorem State.load8_snd (x : Word) (s : State) : (s.load8 x).2 = s.noteRead .data x := rfl
@[simp] theorem State.load16_fst (x : Word) (s : State) : (s.load16 x).1 = s.readWord x := rfl
@[simp] theorem State.load16_snd (x : Word) (s : State) : (s.load16 x).2 = (s.noteRead .data x).noteRead .data (x + 1) := rfl
@[simp] theorem pop16_fst (s : State) : (pop16 s).1 = s.readWord s.sp := rfl

/-! ### Pop16: the state after -/

@[simp] theorem pop16_snd_a (s : State) : ((pop16 s).2).a = s.a := rfl
@[simp] theorem pop16_snd_f (s : State) : ((pop16 s).2).f = s.f := rfl
@[simp] theorem pop16_snd_b (s : State) : ((pop16 s).2).b = s.b := rfl
@[simp] theorem pop16_snd_c (s : State) : ((pop16 s).2).c = s.c := rfl
@[simp] theorem pop16_snd_d (s : State) : ((pop16 s).2).d = s.d := rfl
@[simp] theorem pop16_snd_e (s : State) : ((pop16 s).2).e = s.e := rfl
@[simp] theorem pop16_snd_h (s : State) : ((pop16 s).2).h = s.h := rfl
@[simp] theorem pop16_snd_l (s : State) : ((pop16 s).2).l = s.l := rfl
@[simp] theorem pop16_snd_pc (s : State) : ((pop16 s).2).pc = s.pc := rfl
@[simp] theorem pop16_snd_ime (s : State) : ((pop16 s).2).ime = s.ime := rfl
@[simp] theorem pop16_snd_eiPending (s : State) : ((pop16 s).2).eiPending = s.eiPending := rfl
@[simp] theorem pop16_snd_locked (s : State) : ((pop16 s).2).locked = s.locked := rfl
@[simp] theorem pop16_snd_mem (s : State) : ((pop16 s).2).mem = s.mem := rfl
@[simp] theorem pop16_snd_irqInput (s : State) : ((pop16 s).2).irqInput = s.irqInput := rfl
@[simp] theorem pop16_snd_irqAck (s : State) : ((pop16 s).2).irqAck = s.irqAck := rfl
@[simp] theorem pop16_snd_illegalOpcode (s : State) : ((pop16 s).2).illegalOpcode = s.illegalOpcode := rfl
@[simp] theorem pop16_snd_sp (s : State) : (pop16 s).2.sp = s.sp + 2 := rfl
@[simp] theorem pop16_snd_bus (s : State) : (pop16 s).2.bus = s.bus ++ [.read .data s.sp (s.readByte s.sp), .read .data (s.sp + 1) (s.readByte (s.sp + 1))] := by simp [pop16, State.readByte]

@[simp] theorem fetchByte_fst (s : State) : (fetchByte s).1 = s.readByte s.pc := rfl

/-! ### FetchByte: the state after -/

@[simp] theorem fetchByte_snd_a (s : State) : ((fetchByte s).2).a = s.a := rfl
@[simp] theorem fetchByte_snd_f (s : State) : ((fetchByte s).2).f = s.f := rfl
@[simp] theorem fetchByte_snd_b (s : State) : ((fetchByte s).2).b = s.b := rfl
@[simp] theorem fetchByte_snd_c (s : State) : ((fetchByte s).2).c = s.c := rfl
@[simp] theorem fetchByte_snd_d (s : State) : ((fetchByte s).2).d = s.d := rfl
@[simp] theorem fetchByte_snd_e (s : State) : ((fetchByte s).2).e = s.e := rfl
@[simp] theorem fetchByte_snd_h (s : State) : ((fetchByte s).2).h = s.h := rfl
@[simp] theorem fetchByte_snd_l (s : State) : ((fetchByte s).2).l = s.l := rfl
@[simp] theorem fetchByte_snd_sp (s : State) : ((fetchByte s).2).sp = s.sp := rfl
@[simp] theorem fetchByte_snd_ime (s : State) : ((fetchByte s).2).ime = s.ime := rfl
@[simp] theorem fetchByte_snd_eiPending (s : State) : ((fetchByte s).2).eiPending = s.eiPending := rfl
@[simp] theorem fetchByte_snd_locked (s : State) : ((fetchByte s).2).locked = s.locked := rfl
@[simp] theorem fetchByte_snd_mem (s : State) : ((fetchByte s).2).mem = s.mem := rfl
@[simp] theorem fetchByte_snd_irqInput (s : State) : ((fetchByte s).2).irqInput = s.irqInput := rfl
@[simp] theorem fetchByte_snd_irqAck (s : State) : ((fetchByte s).2).irqAck = s.irqAck := rfl
@[simp] theorem fetchByte_snd_illegalOpcode (s : State) : ((fetchByte s).2).illegalOpcode = s.illegalOpcode := rfl
@[simp] theorem fetchByte_snd_pc (s : State) : (fetchByte s).2.pc = s.pc + 1 := rfl
@[simp] theorem fetchByte_snd_bus (s : State) : (fetchByte s).2.bus = s.bus ++ [.read .fetch s.pc (s.readByte s.pc)] := rfl

/-! ### A register -/

@[simp] theorem State.setReg_f (r : Reg) (v : Byte) (s : State) : (s.setReg r v).f = s.f := by cases r <;> rfl
@[simp] theorem State.setReg_pc (r : Reg) (v : Byte) (s : State) : (s.setReg r v).pc = s.pc := by cases r <;> rfl
@[simp] theorem State.setReg_sp (r : Reg) (v : Byte) (s : State) : (s.setReg r v).sp = s.sp := by cases r <;> rfl
@[simp] theorem State.setReg_ime (r : Reg) (v : Byte) (s : State) : (s.setReg r v).ime = s.ime := by cases r <;> rfl
@[simp] theorem State.setReg_eiPending (r : Reg) (v : Byte) (s : State) : (s.setReg r v).eiPending = s.eiPending := by cases r <;> rfl
@[simp] theorem State.setReg_locked (r : Reg) (v : Byte) (s : State) : (s.setReg r v).locked = s.locked := by cases r <;> rfl
@[simp] theorem State.setReg_mem (r : Reg) (v : Byte) (s : State) : (s.setReg r v).mem = s.mem := by cases r <;> rfl
@[simp] theorem State.setReg_irqInput (r : Reg) (v : Byte) (s : State) : (s.setReg r v).irqInput = s.irqInput := by cases r <;> rfl
@[simp] theorem State.setReg_irqAck (r : Reg) (v : Byte) (s : State) : (s.setReg r v).irqAck = s.irqAck := by cases r <;> rfl
@[simp] theorem State.setReg_illegalOpcode (r : Reg) (v : Byte) (s : State) : (s.setReg r v).illegalOpcode = s.illegalOpcode := by cases r <;> rfl
@[simp] theorem State.setReg_bus (r : Reg) (v : Byte) (s : State) : (s.setReg r v).bus = s.bus := by cases r <;> rfl

/-! ### The pair AF -/

@[simp] theorem State.setAF_b (v : Word) (s : State) : (s.setAF v).b = s.b := rfl
@[simp] theorem State.setAF_c (v : Word) (s : State) : (s.setAF v).c = s.c := rfl
@[simp] theorem State.setAF_d (v : Word) (s : State) : (s.setAF v).d = s.d := rfl
@[simp] theorem State.setAF_e (v : Word) (s : State) : (s.setAF v).e = s.e := rfl
@[simp] theorem State.setAF_h (v : Word) (s : State) : (s.setAF v).h = s.h := rfl
@[simp] theorem State.setAF_l (v : Word) (s : State) : (s.setAF v).l = s.l := rfl
@[simp] theorem State.setAF_pc (v : Word) (s : State) : (s.setAF v).pc = s.pc := rfl
@[simp] theorem State.setAF_sp (v : Word) (s : State) : (s.setAF v).sp = s.sp := rfl
@[simp] theorem State.setAF_ime (v : Word) (s : State) : (s.setAF v).ime = s.ime := rfl
@[simp] theorem State.setAF_eiPending (v : Word) (s : State) : (s.setAF v).eiPending = s.eiPending := rfl
@[simp] theorem State.setAF_locked (v : Word) (s : State) : (s.setAF v).locked = s.locked := rfl
@[simp] theorem State.setAF_mem (v : Word) (s : State) : (s.setAF v).mem = s.mem := rfl
@[simp] theorem State.setAF_irqInput (v : Word) (s : State) : (s.setAF v).irqInput = s.irqInput := rfl
@[simp] theorem State.setAF_irqAck (v : Word) (s : State) : (s.setAF v).irqAck = s.irqAck := rfl
@[simp] theorem State.setAF_illegalOpcode (v : Word) (s : State) : (s.setAF v).illegalOpcode = s.illegalOpcode := rfl
@[simp] theorem State.setAF_bus (v : Word) (s : State) : (s.setAF v).bus = s.bus := rfl
@[simp] theorem State.setAF_a (v : Word) (s : State) : (s.setAF v).a = hi8 v := rfl
@[simp] theorem State.setAF_f (v : Word) (s : State) : (s.setAF v).f = lo8 v &&& 0xF0#8 := rfl

/-! ### The pair BC -/

@[simp] theorem State.setBC_a (v : Word) (s : State) : (s.setBC v).a = s.a := rfl
@[simp] theorem State.setBC_f (v : Word) (s : State) : (s.setBC v).f = s.f := rfl
@[simp] theorem State.setBC_d (v : Word) (s : State) : (s.setBC v).d = s.d := rfl
@[simp] theorem State.setBC_e (v : Word) (s : State) : (s.setBC v).e = s.e := rfl
@[simp] theorem State.setBC_h (v : Word) (s : State) : (s.setBC v).h = s.h := rfl
@[simp] theorem State.setBC_l (v : Word) (s : State) : (s.setBC v).l = s.l := rfl
@[simp] theorem State.setBC_pc (v : Word) (s : State) : (s.setBC v).pc = s.pc := rfl
@[simp] theorem State.setBC_sp (v : Word) (s : State) : (s.setBC v).sp = s.sp := rfl
@[simp] theorem State.setBC_ime (v : Word) (s : State) : (s.setBC v).ime = s.ime := rfl
@[simp] theorem State.setBC_eiPending (v : Word) (s : State) : (s.setBC v).eiPending = s.eiPending := rfl
@[simp] theorem State.setBC_locked (v : Word) (s : State) : (s.setBC v).locked = s.locked := rfl
@[simp] theorem State.setBC_mem (v : Word) (s : State) : (s.setBC v).mem = s.mem := rfl
@[simp] theorem State.setBC_irqInput (v : Word) (s : State) : (s.setBC v).irqInput = s.irqInput := rfl
@[simp] theorem State.setBC_irqAck (v : Word) (s : State) : (s.setBC v).irqAck = s.irqAck := rfl
@[simp] theorem State.setBC_illegalOpcode (v : Word) (s : State) : (s.setBC v).illegalOpcode = s.illegalOpcode := rfl
@[simp] theorem State.setBC_bus (v : Word) (s : State) : (s.setBC v).bus = s.bus := rfl
@[simp] theorem State.setBC_b (v : Word) (s : State) : (s.setBC v).b = hi8 v := rfl
@[simp] theorem State.setBC_c (v : Word) (s : State) : (s.setBC v).c = lo8 v := rfl

/-! ### The pair DE -/

@[simp] theorem State.setDE_a (v : Word) (s : State) : (s.setDE v).a = s.a := rfl
@[simp] theorem State.setDE_f (v : Word) (s : State) : (s.setDE v).f = s.f := rfl
@[simp] theorem State.setDE_b (v : Word) (s : State) : (s.setDE v).b = s.b := rfl
@[simp] theorem State.setDE_c (v : Word) (s : State) : (s.setDE v).c = s.c := rfl
@[simp] theorem State.setDE_h (v : Word) (s : State) : (s.setDE v).h = s.h := rfl
@[simp] theorem State.setDE_l (v : Word) (s : State) : (s.setDE v).l = s.l := rfl
@[simp] theorem State.setDE_pc (v : Word) (s : State) : (s.setDE v).pc = s.pc := rfl
@[simp] theorem State.setDE_sp (v : Word) (s : State) : (s.setDE v).sp = s.sp := rfl
@[simp] theorem State.setDE_ime (v : Word) (s : State) : (s.setDE v).ime = s.ime := rfl
@[simp] theorem State.setDE_eiPending (v : Word) (s : State) : (s.setDE v).eiPending = s.eiPending := rfl
@[simp] theorem State.setDE_locked (v : Word) (s : State) : (s.setDE v).locked = s.locked := rfl
@[simp] theorem State.setDE_mem (v : Word) (s : State) : (s.setDE v).mem = s.mem := rfl
@[simp] theorem State.setDE_irqInput (v : Word) (s : State) : (s.setDE v).irqInput = s.irqInput := rfl
@[simp] theorem State.setDE_irqAck (v : Word) (s : State) : (s.setDE v).irqAck = s.irqAck := rfl
@[simp] theorem State.setDE_illegalOpcode (v : Word) (s : State) : (s.setDE v).illegalOpcode = s.illegalOpcode := rfl
@[simp] theorem State.setDE_bus (v : Word) (s : State) : (s.setDE v).bus = s.bus := rfl
@[simp] theorem State.setDE_d (v : Word) (s : State) : (s.setDE v).d = hi8 v := rfl
@[simp] theorem State.setDE_e (v : Word) (s : State) : (s.setDE v).e = lo8 v := rfl

/-! ### The pair HL -/

@[simp] theorem State.setHL_a (v : Word) (s : State) : (s.setHL v).a = s.a := rfl
@[simp] theorem State.setHL_f (v : Word) (s : State) : (s.setHL v).f = s.f := rfl
@[simp] theorem State.setHL_b (v : Word) (s : State) : (s.setHL v).b = s.b := rfl
@[simp] theorem State.setHL_c (v : Word) (s : State) : (s.setHL v).c = s.c := rfl
@[simp] theorem State.setHL_d (v : Word) (s : State) : (s.setHL v).d = s.d := rfl
@[simp] theorem State.setHL_e (v : Word) (s : State) : (s.setHL v).e = s.e := rfl
@[simp] theorem State.setHL_pc (v : Word) (s : State) : (s.setHL v).pc = s.pc := rfl
@[simp] theorem State.setHL_sp (v : Word) (s : State) : (s.setHL v).sp = s.sp := rfl
@[simp] theorem State.setHL_ime (v : Word) (s : State) : (s.setHL v).ime = s.ime := rfl
@[simp] theorem State.setHL_eiPending (v : Word) (s : State) : (s.setHL v).eiPending = s.eiPending := rfl
@[simp] theorem State.setHL_locked (v : Word) (s : State) : (s.setHL v).locked = s.locked := rfl
@[simp] theorem State.setHL_mem (v : Word) (s : State) : (s.setHL v).mem = s.mem := rfl
@[simp] theorem State.setHL_irqInput (v : Word) (s : State) : (s.setHL v).irqInput = s.irqInput := rfl
@[simp] theorem State.setHL_irqAck (v : Word) (s : State) : (s.setHL v).irqAck = s.irqAck := rfl
@[simp] theorem State.setHL_illegalOpcode (v : Word) (s : State) : (s.setHL v).illegalOpcode = s.illegalOpcode := rfl
@[simp] theorem State.setHL_bus (v : Word) (s : State) : (s.setHL v).bus = s.bus := rfl
@[simp] theorem State.setHL_h (v : Word) (s : State) : (s.setHL v).h = hi8 v := rfl
@[simp] theorem State.setHL_l (v : Word) (s : State) : (s.setHL v).l = lo8 v := rfl

/-! ### RP[p] -/

@[simp] theorem State.setPair_a (p : Pair) (v : Word) (s : State) : (s.setPair p v).a = s.a := by cases p <;> rfl
@[simp] theorem State.setPair_f (p : Pair) (v : Word) (s : State) : (s.setPair p v).f = s.f := by cases p <;> rfl
@[simp] theorem State.setPair_pc (p : Pair) (v : Word) (s : State) : (s.setPair p v).pc = s.pc := by cases p <;> rfl
@[simp] theorem State.setPair_ime (p : Pair) (v : Word) (s : State) : (s.setPair p v).ime = s.ime := by cases p <;> rfl
@[simp] theorem State.setPair_eiPending (p : Pair) (v : Word) (s : State) : (s.setPair p v).eiPending = s.eiPending := by cases p <;> rfl
@[simp] theorem State.setPair_locked (p : Pair) (v : Word) (s : State) : (s.setPair p v).locked = s.locked := by cases p <;> rfl
@[simp] theorem State.setPair_mem (p : Pair) (v : Word) (s : State) : (s.setPair p v).mem = s.mem := by cases p <;> rfl
@[simp] theorem State.setPair_irqInput (p : Pair) (v : Word) (s : State) : (s.setPair p v).irqInput = s.irqInput := by cases p <;> rfl
@[simp] theorem State.setPair_irqAck (p : Pair) (v : Word) (s : State) : (s.setPair p v).irqAck = s.irqAck := by cases p <;> rfl
@[simp] theorem State.setPair_illegalOpcode (p : Pair) (v : Word) (s : State) : (s.setPair p v).illegalOpcode = s.illegalOpcode := by cases p <;> rfl
@[simp] theorem State.setPair_bus (p : Pair) (v : Word) (s : State) : (s.setPair p v).bus = s.bus := by cases p <;> rfl

/-! ### RP2[p] -/

@[simp] theorem State.setStackPair_pc (p : StackPair) (v : Word) (s : State) : (s.setStackPair p v).pc = s.pc := by cases p <;> rfl
@[simp] theorem State.setStackPair_sp (p : StackPair) (v : Word) (s : State) : (s.setStackPair p v).sp = s.sp := by cases p <;> rfl
@[simp] theorem State.setStackPair_ime (p : StackPair) (v : Word) (s : State) : (s.setStackPair p v).ime = s.ime := by cases p <;> rfl
@[simp] theorem State.setStackPair_eiPending (p : StackPair) (v : Word) (s : State) : (s.setStackPair p v).eiPending = s.eiPending := by cases p <;> rfl
@[simp] theorem State.setStackPair_locked (p : StackPair) (v : Word) (s : State) : (s.setStackPair p v).locked = s.locked := by cases p <;> rfl
@[simp] theorem State.setStackPair_mem (p : StackPair) (v : Word) (s : State) : (s.setStackPair p v).mem = s.mem := by cases p <;> rfl
@[simp] theorem State.setStackPair_irqInput (p : StackPair) (v : Word) (s : State) : (s.setStackPair p v).irqInput = s.irqInput := by cases p <;> rfl
@[simp] theorem State.setStackPair_irqAck (p : StackPair) (v : Word) (s : State) : (s.setStackPair p v).irqAck = s.irqAck := by cases p <;> rfl
@[simp] theorem State.setStackPair_illegalOpcode (p : StackPair) (v : Word) (s : State) : (s.setStackPair p v).illegalOpcode = s.illegalOpcode := by cases p <;> rfl
@[simp] theorem State.setStackPair_bus (p : StackPair) (v : Word) (s : State) : (s.setStackPair p v).bus = s.bus := by cases p <;> rfl

/-! ### R8[r] read: the state after -/

@[simp] theorem readOperand_snd_a (o : Operand8) (s : State) : ((readOperand o s).2).a = s.a := by cases o <;> rfl
@[simp] theorem readOperand_snd_f (o : Operand8) (s : State) : ((readOperand o s).2).f = s.f := by cases o <;> rfl
@[simp] theorem readOperand_snd_b (o : Operand8) (s : State) : ((readOperand o s).2).b = s.b := by cases o <;> rfl
@[simp] theorem readOperand_snd_c (o : Operand8) (s : State) : ((readOperand o s).2).c = s.c := by cases o <;> rfl
@[simp] theorem readOperand_snd_d (o : Operand8) (s : State) : ((readOperand o s).2).d = s.d := by cases o <;> rfl
@[simp] theorem readOperand_snd_e (o : Operand8) (s : State) : ((readOperand o s).2).e = s.e := by cases o <;> rfl
@[simp] theorem readOperand_snd_h (o : Operand8) (s : State) : ((readOperand o s).2).h = s.h := by cases o <;> rfl
@[simp] theorem readOperand_snd_l (o : Operand8) (s : State) : ((readOperand o s).2).l = s.l := by cases o <;> rfl
@[simp] theorem readOperand_snd_pc (o : Operand8) (s : State) : ((readOperand o s).2).pc = s.pc := by cases o <;> rfl
@[simp] theorem readOperand_snd_sp (o : Operand8) (s : State) : ((readOperand o s).2).sp = s.sp := by cases o <;> rfl
@[simp] theorem readOperand_snd_ime (o : Operand8) (s : State) : ((readOperand o s).2).ime = s.ime := by cases o <;> rfl
@[simp] theorem readOperand_snd_eiPending (o : Operand8) (s : State) : ((readOperand o s).2).eiPending = s.eiPending := by cases o <;> rfl
@[simp] theorem readOperand_snd_locked (o : Operand8) (s : State) : ((readOperand o s).2).locked = s.locked := by cases o <;> rfl
@[simp] theorem readOperand_snd_mem (o : Operand8) (s : State) : ((readOperand o s).2).mem = s.mem := by cases o <;> rfl
@[simp] theorem readOperand_snd_irqInput (o : Operand8) (s : State) : ((readOperand o s).2).irqInput = s.irqInput := by cases o <;> rfl
@[simp] theorem readOperand_snd_irqAck (o : Operand8) (s : State) : ((readOperand o s).2).irqAck = s.irqAck := by cases o <;> rfl
@[simp] theorem readOperand_snd_illegalOpcode (o : Operand8) (s : State) : ((readOperand o s).2).illegalOpcode = s.illegalOpcode := by cases o <;> rfl

/-! ### R8[r] written -/

@[simp] theorem writeOperand_f (o : Operand8) (v : Byte) (s : State) : (writeOperand o v s).f = s.f := by cases o <;> simp [writeOperand]
@[simp] theorem writeOperand_pc (o : Operand8) (v : Byte) (s : State) : (writeOperand o v s).pc = s.pc := by cases o <;> simp [writeOperand]
@[simp] theorem writeOperand_sp (o : Operand8) (v : Byte) (s : State) : (writeOperand o v s).sp = s.sp := by cases o <;> simp [writeOperand]
@[simp] theorem writeOperand_ime (o : Operand8) (v : Byte) (s : State) : (writeOperand o v s).ime = s.ime := by cases o <;> simp [writeOperand]
@[simp] theorem writeOperand_eiPending (o : Operand8) (v : Byte) (s : State) : (writeOperand o v s).eiPending = s.eiPending := by cases o <;> simp [writeOperand]
@[simp] theorem writeOperand_locked (o : Operand8) (v : Byte) (s : State) : (writeOperand o v s).locked = s.locked := by cases o <;> simp [writeOperand]
@[simp] theorem writeOperand_irqInput (o : Operand8) (v : Byte) (s : State) : (writeOperand o v s).irqInput = s.irqInput := by cases o <;> simp [writeOperand]
@[simp] theorem writeOperand_irqAck (o : Operand8) (v : Byte) (s : State) : (writeOperand o v s).irqAck = s.irqAck := by cases o <;> simp [writeOperand]
@[simp] theorem writeOperand_illegalOpcode (o : Operand8) (v : Byte) (s : State) : (writeOperand o v s).illegalOpcode = s.illegalOpcode := by cases o <;> simp [writeOperand]

/-! ### The post-modification of a pointer -/

@[simp] theorem pointerAfter_a (p : Pointer) (s : State) : (pointerAfter p s).a = s.a := by cases p <;> rfl
@[simp] theorem pointerAfter_f (p : Pointer) (s : State) : (pointerAfter p s).f = s.f := by cases p <;> rfl
@[simp] theorem pointerAfter_b (p : Pointer) (s : State) : (pointerAfter p s).b = s.b := by cases p <;> rfl
@[simp] theorem pointerAfter_c (p : Pointer) (s : State) : (pointerAfter p s).c = s.c := by cases p <;> rfl
@[simp] theorem pointerAfter_d (p : Pointer) (s : State) : (pointerAfter p s).d = s.d := by cases p <;> rfl
@[simp] theorem pointerAfter_e (p : Pointer) (s : State) : (pointerAfter p s).e = s.e := by cases p <;> rfl
@[simp] theorem pointerAfter_pc (p : Pointer) (s : State) : (pointerAfter p s).pc = s.pc := by cases p <;> rfl
@[simp] theorem pointerAfter_sp (p : Pointer) (s : State) : (pointerAfter p s).sp = s.sp := by cases p <;> rfl
@[simp] theorem pointerAfter_ime (p : Pointer) (s : State) : (pointerAfter p s).ime = s.ime := by cases p <;> rfl
@[simp] theorem pointerAfter_eiPending (p : Pointer) (s : State) : (pointerAfter p s).eiPending = s.eiPending := by cases p <;> rfl
@[simp] theorem pointerAfter_locked (p : Pointer) (s : State) : (pointerAfter p s).locked = s.locked := by cases p <;> rfl
@[simp] theorem pointerAfter_mem (p : Pointer) (s : State) : (pointerAfter p s).mem = s.mem := by cases p <;> rfl
@[simp] theorem pointerAfter_irqInput (p : Pointer) (s : State) : (pointerAfter p s).irqInput = s.irqInput := by cases p <;> rfl
@[simp] theorem pointerAfter_irqAck (p : Pointer) (s : State) : (pointerAfter p s).irqAck = s.irqAck := by cases p <;> rfl
@[simp] theorem pointerAfter_illegalOpcode (p : Pointer) (s : State) : (pointerAfter p s).illegalOpcode = s.illegalOpcode := by cases p <;> rfl
@[simp] theorem pointerAfter_bus (p : Pointer) (s : State) : (pointerAfter p s).bus = s.bus := by cases p <;> rfl

/-! ### Interrupt entry -/

@[simp] theorem enterInterrupt_a (n : Fin 5) (s : State) : (enterInterrupt n s).a = s.a := rfl
@[simp] theorem enterInterrupt_f (n : Fin 5) (s : State) : (enterInterrupt n s).f = s.f := rfl
@[simp] theorem enterInterrupt_b (n : Fin 5) (s : State) : (enterInterrupt n s).b = s.b := rfl
@[simp] theorem enterInterrupt_c (n : Fin 5) (s : State) : (enterInterrupt n s).c = s.c := rfl
@[simp] theorem enterInterrupt_d (n : Fin 5) (s : State) : (enterInterrupt n s).d = s.d := rfl
@[simp] theorem enterInterrupt_e (n : Fin 5) (s : State) : (enterInterrupt n s).e = s.e := rfl
@[simp] theorem enterInterrupt_h (n : Fin 5) (s : State) : (enterInterrupt n s).h = s.h := rfl
@[simp] theorem enterInterrupt_l (n : Fin 5) (s : State) : (enterInterrupt n s).l = s.l := rfl
@[simp] theorem enterInterrupt_locked (n : Fin 5) (s : State) : (enterInterrupt n s).locked = s.locked := rfl
@[simp] theorem enterInterrupt_irqInput (n : Fin 5) (s : State) : (enterInterrupt n s).irqInput = s.irqInput := rfl
@[simp] theorem enterInterrupt_illegalOpcode (n : Fin 5) (s : State) : (enterInterrupt n s).illegalOpcode = s.illegalOpcode := rfl
@[simp] theorem enterInterrupt_pc (n : Fin 5) (s : State) : (enterInterrupt n s).pc = irqVector n := rfl
@[simp] theorem enterInterrupt_sp (n : Fin 5) (s : State) : (enterInterrupt n s).sp = s.sp - 2 := rfl
@[simp] theorem enterInterrupt_ime (n : Fin 5) (s : State) : (enterInterrupt n s).ime = false := rfl
@[simp] theorem enterInterrupt_eiPending (n : Fin 5) (s : State) : (enterInterrupt n s).eiPending = false := rfl
@[simp] theorem enterInterrupt_irqAck (n : Fin 5) (s : State) : (enterInterrupt n s).irqAck = some n := rfl
@[simp] theorem enterInterrupt_mem (n : Fin 5) (s : State) : (enterInterrupt n s).mem = (push16 s.pc s).mem := rfl
@[simp] theorem enterInterrupt_bus (n : Fin 5) (s : State) : (enterInterrupt n s).bus = (push16 s.pc s).bus := rfl

/-! ### The return of RETI -/

@[simp] theorem returnFromInterrupt_a (s : State) : (returnFromInterrupt s).a = s.a := rfl
@[simp] theorem returnFromInterrupt_f (s : State) : (returnFromInterrupt s).f = s.f := rfl
@[simp] theorem returnFromInterrupt_b (s : State) : (returnFromInterrupt s).b = s.b := rfl
@[simp] theorem returnFromInterrupt_c (s : State) : (returnFromInterrupt s).c = s.c := rfl
@[simp] theorem returnFromInterrupt_d (s : State) : (returnFromInterrupt s).d = s.d := rfl
@[simp] theorem returnFromInterrupt_e (s : State) : (returnFromInterrupt s).e = s.e := rfl
@[simp] theorem returnFromInterrupt_h (s : State) : (returnFromInterrupt s).h = s.h := rfl
@[simp] theorem returnFromInterrupt_l (s : State) : (returnFromInterrupt s).l = s.l := rfl
@[simp] theorem returnFromInterrupt_eiPending (s : State) : (returnFromInterrupt s).eiPending = s.eiPending := rfl
@[simp] theorem returnFromInterrupt_locked (s : State) : (returnFromInterrupt s).locked = s.locked := rfl
@[simp] theorem returnFromInterrupt_mem (s : State) : (returnFromInterrupt s).mem = s.mem := rfl
@[simp] theorem returnFromInterrupt_irqInput (s : State) : (returnFromInterrupt s).irqInput = s.irqInput := rfl
@[simp] theorem returnFromInterrupt_irqAck (s : State) : (returnFromInterrupt s).irqAck = s.irqAck := rfl
@[simp] theorem returnFromInterrupt_illegalOpcode (s : State) : (returnFromInterrupt s).illegalOpcode = s.illegalOpcode := rfl
@[simp] theorem returnFromInterrupt_pc (s : State) : (returnFromInterrupt s).pc = s.readWord s.sp := rfl
@[simp] theorem returnFromInterrupt_sp (s : State) : (returnFromInterrupt s).sp = s.sp + 2 := rfl
@[simp] theorem returnFromInterrupt_ime (s : State) : (returnFromInterrupt s).ime = true := rfl
@[simp] theorem returnFromInterrupt_bus (s : State) : (returnFromInterrupt s).bus = (pop16 s).2.bus := rfl

/-! ### The EI delay -/

@[simp] theorem promoteEi_a (s : State) : (promoteEi s).a = s.a := by unfold promoteEi; split <;> rfl
@[simp] theorem promoteEi_f (s : State) : (promoteEi s).f = s.f := by unfold promoteEi; split <;> rfl
@[simp] theorem promoteEi_b (s : State) : (promoteEi s).b = s.b := by unfold promoteEi; split <;> rfl
@[simp] theorem promoteEi_c (s : State) : (promoteEi s).c = s.c := by unfold promoteEi; split <;> rfl
@[simp] theorem promoteEi_d (s : State) : (promoteEi s).d = s.d := by unfold promoteEi; split <;> rfl
@[simp] theorem promoteEi_e (s : State) : (promoteEi s).e = s.e := by unfold promoteEi; split <;> rfl
@[simp] theorem promoteEi_h (s : State) : (promoteEi s).h = s.h := by unfold promoteEi; split <;> rfl
@[simp] theorem promoteEi_l (s : State) : (promoteEi s).l = s.l := by unfold promoteEi; split <;> rfl
@[simp] theorem promoteEi_pc (s : State) : (promoteEi s).pc = s.pc := by unfold promoteEi; split <;> rfl
@[simp] theorem promoteEi_sp (s : State) : (promoteEi s).sp = s.sp := by unfold promoteEi; split <;> rfl
@[simp] theorem promoteEi_locked (s : State) : (promoteEi s).locked = s.locked := by unfold promoteEi; split <;> rfl
@[simp] theorem promoteEi_mem (s : State) : (promoteEi s).mem = s.mem := by unfold promoteEi; split <;> rfl
@[simp] theorem promoteEi_irqInput (s : State) : (promoteEi s).irqInput = s.irqInput := by unfold promoteEi; split <;> rfl
@[simp] theorem promoteEi_irqAck (s : State) : (promoteEi s).irqAck = s.irqAck := by unfold promoteEi; split <;> rfl
@[simp] theorem promoteEi_illegalOpcode (s : State) : (promoteEi s).illegalOpcode = s.illegalOpcode := by unfold promoteEi; split <;> rfl
@[simp] theorem promoteEi_bus (s : State) : (promoteEi s).bus = s.bus := by unfold promoteEi; split <;> rfl
@[simp] theorem promoteEi_ime (s : State) : (promoteEi s).ime = (s.ime || s.eiPending) := by unfold promoteEi; split <;> simp_all
@[simp] theorem promoteEi_eiPending (s : State) : (promoteEi s).eiPending = false := by unfold promoteEi; split <;> simp_all

/-! ### The fault -/

@[simp] theorem raiseIllegal_a (op : Byte) (s : State) : (raiseIllegal op s).a = s.a := rfl
@[simp] theorem raiseIllegal_f (op : Byte) (s : State) : (raiseIllegal op s).f = s.f := rfl
@[simp] theorem raiseIllegal_b (op : Byte) (s : State) : (raiseIllegal op s).b = s.b := rfl
@[simp] theorem raiseIllegal_c (op : Byte) (s : State) : (raiseIllegal op s).c = s.c := rfl
@[simp] theorem raiseIllegal_d (op : Byte) (s : State) : (raiseIllegal op s).d = s.d := rfl
@[simp] theorem raiseIllegal_e (op : Byte) (s : State) : (raiseIllegal op s).e = s.e := rfl
@[simp] theorem raiseIllegal_h (op : Byte) (s : State) : (raiseIllegal op s).h = s.h := rfl
@[simp] theorem raiseIllegal_l (op : Byte) (s : State) : (raiseIllegal op s).l = s.l := rfl
@[simp] theorem raiseIllegal_pc (op : Byte) (s : State) : (raiseIllegal op s).pc = s.pc := rfl
@[simp] theorem raiseIllegal_sp (op : Byte) (s : State) : (raiseIllegal op s).sp = s.sp := rfl
@[simp] theorem raiseIllegal_ime (op : Byte) (s : State) : (raiseIllegal op s).ime = s.ime := rfl
@[simp] theorem raiseIllegal_eiPending (op : Byte) (s : State) : (raiseIllegal op s).eiPending = s.eiPending := rfl
@[simp] theorem raiseIllegal_mem (op : Byte) (s : State) : (raiseIllegal op s).mem = s.mem := rfl
@[simp] theorem raiseIllegal_irqInput (op : Byte) (s : State) : (raiseIllegal op s).irqInput = s.irqInput := rfl
@[simp] theorem raiseIllegal_irqAck (op : Byte) (s : State) : (raiseIllegal op s).irqAck = s.irqAck := rfl
@[simp] theorem raiseIllegal_bus (op : Byte) (s : State) : (raiseIllegal op s).bus = s.bus := rfl
@[simp] theorem raiseIllegal_locked (op : Byte) (s : State) : (raiseIllegal op s).locked = true := rfl
@[simp] theorem raiseIllegal_illegalOpcode (op : Byte) (s : State) : (raiseIllegal op s).illegalOpcode = some ⟨op, s.pc - 1⟩ := rfl

/-! ### The step boundary -/

@[simp] theorem beginStep_a (s : State) : (beginStep s).a = s.a := rfl
@[simp] theorem beginStep_f (s : State) : (beginStep s).f = s.f := rfl
@[simp] theorem beginStep_b (s : State) : (beginStep s).b = s.b := rfl
@[simp] theorem beginStep_c (s : State) : (beginStep s).c = s.c := rfl
@[simp] theorem beginStep_d (s : State) : (beginStep s).d = s.d := rfl
@[simp] theorem beginStep_e (s : State) : (beginStep s).e = s.e := rfl
@[simp] theorem beginStep_h (s : State) : (beginStep s).h = s.h := rfl
@[simp] theorem beginStep_l (s : State) : (beginStep s).l = s.l := rfl
@[simp] theorem beginStep_pc (s : State) : (beginStep s).pc = s.pc := rfl
@[simp] theorem beginStep_sp (s : State) : (beginStep s).sp = s.sp := rfl
@[simp] theorem beginStep_ime (s : State) : (beginStep s).ime = s.ime := rfl
@[simp] theorem beginStep_eiPending (s : State) : (beginStep s).eiPending = s.eiPending := rfl
@[simp] theorem beginStep_locked (s : State) : (beginStep s).locked = s.locked := rfl
@[simp] theorem beginStep_mem (s : State) : (beginStep s).mem = s.mem := rfl
@[simp] theorem beginStep_irqAck (s : State) : (beginStep s).irqAck = s.irqAck := rfl
@[simp] theorem beginStep_illegalOpcode (s : State) : (beginStep s).illegalOpcode = s.illegalOpcode := rfl
@[simp] theorem beginStep_bus (s : State) : (beginStep s).bus = [] := rfl
@[simp] theorem beginStep_irqInput (s : State) : (beginStep s).irqInput = s.irqInput.tail := rfl

/-! ### Reading a register after a write -/

@[simp] theorem State.reg_setReg_same (r : Reg) (v : Byte) (s : State) : (s.setReg r v).reg r = v := by cases r <;> rfl

theorem State.reg_setReg_ne (r q : Reg) (v : Byte) (s : State) (h : q ≠ r) : (s.setReg r v).reg q = s.reg q := by
  cases r <;> cases q <;> first | rfl | exact absurd rfl h

/-! ### Reading memory is reading the cells -/

/-- A read depends on the cells alone. -/
theorem State.readByte_eq_of_mem_eq (s t : State) (x : Word) (h : s.mem = t.mem) : s.readByte x = t.readByte x := by
  simp [State.readByte, h]

theorem State.readWord_eq_of_mem_eq (s t : State) (x : Word) (h : s.mem = t.mem) : s.readWord x = t.readWord x := by
  simp [State.readWord, State.readByte, h]

end Sys2Proof.Machine
end

