-- ==== Sys2Proof/Laws/Memory.lean ====
section
/-! SUPPORT. The laws of the bus contents: reading after writing, the canonical form kept by every memory
operation, and that canonical memories that read alike are equal. -/

namespace Sys2Proof.Machine

/-! ## Reading after writing -/

@[simp] theorem Memory.read_erase_same (m : Memory) (a : Nat) : (m.erase a).read a = Config.unlistedByte := by
  induction m with
  | nil => rfl
  | cons kv m ih =>
    obtain ⟨k, v⟩ := kv
    by_cases h : k = a <;> simp [Memory.erase, Memory.read, h, ih]

theorem Memory.read_erase_ne (m : Memory) (a x : Nat) (h : x ≠ a) : (m.erase a).read x = m.read x := by
  induction m with
  | nil => rfl
  | cons kv m ih =>
    obtain ⟨k, v⟩ := kv
    by_cases hk : k = a
    · have : k ≠ x := by omega
      simp [Memory.erase, Memory.read, hk, ih, show a ≠ x by omega]
    · by_cases hx : k = x <;> simp [Memory.erase, Memory.read, hk, hx, ih]
      simp [show x ≠ a from h, Memory.read]

@[simp] theorem Memory.read_put_same (m : Memory) (a : Nat) (v : Byte) : (m.put a v).read a = v := by
  induction m with
  | nil => simp [Memory.put, Memory.read]
  | cons kv m ih =>
    obtain ⟨k, w⟩ := kv
    unfold Memory.put
    split
    · simp [Memory.read]
    · split
      · simp [Memory.read]
      · next h1 h2 => simp [Memory.read, ih, show k ≠ a by omega]

theorem Memory.read_put_ne (m : Memory) (a x : Nat) (v : Byte) (h : x ≠ a) : (m.put a v).read x = m.read x := by
  induction m with
  | nil => simp [Memory.put, Memory.read, show a ≠ x by omega]
  | cons kv m ih =>
    obtain ⟨k, w⟩ := kv
    unfold Memory.put
    split
    · simp [Memory.read, show a ≠ x by omega]
    · split
      · next h1 h2 => simp [Memory.read, show a ≠ x by omega, show k ≠ x by omega]
      · simp only [Memory.read, ih]

/-- A write puts its byte in its place (20_memory.md R83, R93). -/
@[simp] theorem Memory.read_write_same (m : Memory) (a : Nat) (v : Byte) : (m.write a v).read a = v := by
  unfold Memory.write
  split
  · next h => simp [h]
  · simp

/-- A write changes that byte only (20_memory.md R83). -/
theorem Memory.read_write_ne (m : Memory) (a x : Nat) (v : Byte) (h : x ≠ a) : (m.write a v).read x = m.read x := by
  unfold Memory.write
  split
  · exact Memory.read_erase_ne m a x h
  · exact Memory.read_put_ne m a x v h

/-- Reading any address after a write. -/
theorem Memory.read_write (m : Memory) (a x : Nat) (v : Byte) : (m.write a v).read x = if x = a then v else m.read x := by
  split
  · next h => subst h; simp
  · next h => exact Memory.read_write_ne m a x v h

/-! ## The canonical form -/

theorem Memory.wfFrom_mono (m : Memory) (lo lo' : Nat) (hle : lo' ≤ lo) (h : Memory.wfFrom lo m = true) : Memory.wfFrom lo' m = true := by
  cases m with
  | nil => rfl
  | cons kv m =>
    obtain ⟨k, v⟩ := kv
    simp only [Memory.wfFrom, Bool.and_eq_true, decide_eq_true_eq] at h ⊢
    exact ⟨⟨⟨by omega, h.1.1.2⟩, h.1.2⟩, h.2⟩

theorem Memory.wfFrom_erase (m : Memory) (lo a : Nat) (h : Memory.wfFrom lo m = true) : Memory.wfFrom lo (m.erase a) = true := by
  induction m generalizing lo with
  | nil => rfl
  | cons kv m ih =>
    obtain ⟨k, v⟩ := kv
    simp only [Memory.wfFrom, Bool.and_eq_true, decide_eq_true_eq] at h
    unfold Memory.erase
    split
    · exact Memory.wfFrom_mono _ (k + 1) lo (by omega) (ih (k + 1) h.2)
    · simp only [Memory.wfFrom, Bool.and_eq_true, decide_eq_true_eq]
      exact ⟨h.1, ih (k + 1) h.2⟩

theorem Memory.wfFrom_put (m : Memory) (lo a : Nat) (v : Byte) (hlo : lo ≤ a) (ha : a < Config.busSize)
    (hv : v ≠ Config.unlistedByte) (h : Memory.wfFrom lo m = true) : Memory.wfFrom lo (m.put a v) = true := by
  induction m generalizing lo with
  | nil => simp [Memory.put, Memory.wfFrom, hlo, ha, hv]
  | cons kv m ih =>
    obtain ⟨k, w⟩ := kv
    simp only [Memory.wfFrom, Bool.and_eq_true, decide_eq_true_eq] at h
    unfold Memory.put
    split
    · next hk =>
      simp only [Memory.wfFrom, Bool.and_eq_true, decide_eq_true_eq]
      exact ⟨⟨⟨hlo, ha⟩, by simpa using hv⟩, ⟨⟨by omega, h.1.1.2⟩, h.1.2⟩, h.2⟩
    · split
      · next hk =>
        subst hk
        simp only [Memory.wfFrom, Bool.and_eq_true, decide_eq_true_eq]
        exact ⟨⟨⟨hlo, ha⟩, by simpa using hv⟩, h.2⟩
      · next h1 h2 =>
        simp only [Memory.wfFrom, Bool.and_eq_true, decide_eq_true_eq]
        exact ⟨h.1, ih (k + 1) (by omega) h.2⟩

/-- A write on the bus keeps the canonical form. -/
theorem Memory.wf_write (m : Memory) (a : Nat) (v : Byte) (ha : a < Config.busSize) (h : m.wf = true) : (m.write a v).wf = true := by
  unfold Memory.write
  split
  · exact Memory.wfFrom_erase m 0 a h
  · next hv => exact Memory.wfFrom_put m 0 a v (by omega) ha hv h

/-- Every address word is on the bus: the address space is total (20_memory.md R80, R100). -/
theorem word_on_bus (x : Word) : x.toNat < Config.busSize := x.isLt

theorem Memory.wf_write_word (m : Memory) (x : Word) (v : Byte) (h : m.wf = true) : (m.write x.toNat v).wf = true :=
  Memory.wf_write m x.toNat v (word_on_bus x) h

/-- Storing consecutive bytes on the bus keeps the canonical form. -/
theorem Memory.wf_writeList (vs : List Byte) (m : Memory) (a : Nat) (ha : a + vs.length ≤ Config.busSize) (h : m.wf = true) :
    (m.writeList a vs).wf = true := by
  induction vs generalizing m a with
  | nil => exact h
  | cons v vs ih =>
    simp only [List.length_cons] at ha
    exact ih (m.write a v) (a + 1) (by omega) (Memory.wf_write m a v (by omega) h)

theorem State.wf_store8 (x : Word) (v : Byte) (s : State) (h : s.mem.wf = true) : (s.store8 x v).mem.wf = true :=
  Memory.wf_write_word s.mem x v h

theorem State.wf_store16 (x v : Word) (s : State) (h : s.mem.wf = true) : (s.store16 x v).mem.wf = true :=
  State.wf_store8 (x + 1) (hi8 v) _ (State.wf_store8 x (lo8 v) s h)

theorem wf_push16 (v : Word) (s : State) (h : s.mem.wf = true) : (push16 v s).mem.wf = true :=
  State.wf_store16 (s.sp - 2) v { s with sp := s.sp - 2 } h

theorem wf_writeOperand (o : Operand8) (v : Byte) (s : State) (h : s.mem.wf = true) : (writeOperand o v s).mem.wf = true := by
  cases o with
  | reg r => simpa [writeOperand] using h
  | mHL => exact State.wf_store8 s.hl v s h

theorem wf_enterInterrupt (n : Fin 5) (s : State) (h : s.mem.wf = true) : (enterInterrupt n s).mem.wf = true := by
  simpa using wf_push16 s.pc s h

theorem wf_placeBytes (b : Byte × Byte × Byte) (s : State) (h : s.mem.wf = true) : (placeBytes b s).wf = true :=
  Memory.wf_write_word _ _ _ (Memory.wf_write_word _ _ _ (Memory.wf_write_word _ _ _ h))

/-- The reset bus is canonical. -/
theorem reset_mem_wf : State.reset.mem.wf = true := rfl

/-! ## What a store can do to a read -/

@[simp] theorem State.readByte_noteRead (k : BusKind) (x y : Word) (s : State) : (s.noteRead k x).readByte y = s.readByte y := rfl

/-- Reading after a one-byte store. -/
theorem State.readByte_store8 (x y : Word) (v : Byte) (s : State) : (s.store8 x v).readByte y = if y = x then v else s.readByte y := by
  simp only [State.readByte, State.store8_mem, Memory.read_write]
  by_cases h : y = x
  · simp [h]
  · rw [if_neg h, if_neg (fun hn => h (BitVec.eq_of_toNat_eq hn))]

@[simp] theorem State.readByte_store8_same (x : Word) (v : Byte) (s : State) : (s.store8 x v).readByte x = v := by
  simp [State.readByte_store8]

theorem State.readByte_store8_ne (x y : Word) (v : Byte) (s : State) (h : y ≠ x) : (s.store8 x v).readByte y = s.readByte y := by
  simp [State.readByte_store8, h]

/-- Reading after a word store: the high byte's address is one up, modulo 65536 (20_memory.md R85). -/
theorem State.readByte_store16 (x y v : Word) (s : State) :
    (s.store16 x v).readByte y = if y = x + 1 then hi8 v else if y = x then lo8 v else s.readByte y := by
  simp only [State.store16, State.readByte_store8]

/-- A word read after a word store at the same address (20_memory.md R84, R85). -/
@[simp] theorem State.readWord_store16_same (x v : Word) (s : State) : (s.store16 x v).readWord x = v := by
  simp [State.readWord, State.readByte_store16]

/-! ## Canonical memories that read alike are equal -/

theorem Memory.read_below (m : Memory) (lo a : Nat) (h : Memory.wfFrom lo m = true) (ha : a < lo) : m.read a = Config.unlistedByte := by
  induction m generalizing lo with
  | nil => rfl
  | cons kv m ih =>
    obtain ⟨k, v⟩ := kv
    simp only [Memory.wfFrom, Bool.and_eq_true, decide_eq_true_eq] at h
    simp only [Memory.read, show k ≠ a by omega, if_false]
    exact ih (k + 1) h.2 (by omega)

/-- Two canonical memories that read alike at every address are the same list: the bus contents have one
form as data. -/
theorem Memory.eq_of_read_eq (m n : Memory) (lo : Nat) (hm : Memory.wfFrom lo m = true) (hn : Memory.wfFrom lo n = true)
    (h : ∀ a, m.read a = n.read a) : m = n := by
  induction m generalizing lo n with
  | nil =>
    cases n with
    | nil => rfl
    | cons kv n =>
      obtain ⟨k, v⟩ := kv
      simp only [Memory.wfFrom, Bool.and_eq_true, bne_iff_ne] at hn
      have := h k
      simp only [Memory.read, if_true] at this
      exact absurd this.symm hn.1.2
  | cons kv m ih =>
    obtain ⟨k, v⟩ := kv
    simp only [Memory.wfFrom, Bool.and_eq_true, decide_eq_true_eq, bne_iff_ne] at hm
    cases n with
    | nil =>
      have := h k
      simp only [Memory.read, if_true] at this
      exact absurd this hm.1.2
    | cons kw n =>
      obtain ⟨q, w⟩ := kw
      simp only [Memory.wfFrom, Bool.and_eq_true, decide_eq_true_eq, bne_iff_ne] at hn
      have hkq : k = q := by
        rcases Nat.lt_trichotomy k q with hlt | heq | hgt
        · have := h k
          simp only [Memory.read, if_true, show q ≠ k by omega, if_false, Memory.read_below n (q + 1) k hn.2 (by omega)] at this
          exact absurd this hm.1.2
        · exact heq
        · have := h q
          simp only [Memory.read, if_true, show k ≠ q by omega, if_false, Memory.read_below m (k + 1) q hm.2 (by omega)] at this
          exact absurd this.symm hn.1.2
      subst hkq
      have hv : v = w := by simpa [Memory.read] using h k
      subst hv
      refine congrArg _ (ih n (k + 1) hm.2 hn.2 (fun a => ?_))
      by_cases ha : k = a
      · subst ha
        rw [Memory.read_below m (k + 1) k hm.2 (by omega), Memory.read_below n (k + 1) k hn.2 (by omega)]
      · simpa [Memory.read, ha] using h a

end Sys2Proof.Machine
end

