-- ==== Sys2Proof/Laws/Ops.lean ====
section
/-! SUPPORT. One lemma per shared operation that says once everything it can do: which fields it writes, with what,
and that the rest of the state is as it was. The provers cite these instead of unfolding the operations. -/

namespace Sys2Proof.Machine

/-! ## Operands (30_encoding.md R126) -/

@[simp] theorem readOperand_fst (o : Operand8) (s : State) : (readOperand o s).1 = operandValue o s := by cases o <;> rfl

/-- Reading an operand changes nothing but the port's record. -/
theorem readOperand_snd (o : Operand8) (s : State) : (readOperand o s).2 = { s with bus := s.bus ++ operandReads o s } := by
  cases o with
  | reg r => simp [readOperand, operandReads]
  | mHL => rfl

@[simp] theorem readOperand_snd_readByte (o : Operand8) (s : State) (x : Word) : (readOperand o s).2.readByte x = s.readByte x := by
  cases o <;> rfl

@[simp] theorem readOperand_snd_bus (o : Operand8) (s : State) : (readOperand o s).2.bus = s.bus ++ operandReads o s := by
  rw [readOperand_snd]

/-- Writing an operand: the named register, or the byte at HL, and nothing else of registers and memory. -/
theorem writeOperand_reg (r q : Reg) (v : Byte) (s : State) : (writeOperand (.reg r) v s).reg q = if q = r then v else s.reg q := by
  split
  · next h => subst h; exact State.reg_setReg_same q v s
  · next h => exact State.reg_setReg_ne r q v s h

@[simp] theorem writeOperand_reg_readByte (r : Reg) (v : Byte) (s : State) (x : Word) :
    (writeOperand (.reg r) v s).readByte x = s.readByte x := by cases r <;> rfl

@[simp] theorem writeOperand_mHL_reg (q : Reg) (v : Byte) (s : State) : (writeOperand .mHL v s).reg q = s.reg q := by cases q <;> rfl

theorem writeOperand_mHL_readByte (v : Byte) (s : State) (x : Word) :
    (writeOperand .mHL v s).readByte x = if x = s.hl then v else s.readByte x := State.readByte_store8 s.hl x v s

theorem writeOperand_bus (o : Operand8) (v : Byte) (s : State) : (writeOperand o v s).bus = s.bus ++ operandWrites o v s := by
  cases o with
  | reg r => simp [writeOperand, operandWrites]
  | mHL => rfl

/-- Reading back a written operand. -/
theorem operandValue_writeOperand (o : Operand8) (v : Byte) (s : State) : operandValue o (writeOperand o v s) = v := by
  cases o with
  | reg r => exact State.reg_setReg_same r v s
  | mHL => exact State.readByte_store8_same s.hl v s

/-! ## 8-bit arithmetic and logic -/

/-- An ALU operation on A: A (but for CP) and F. -/
theorem aluA_eq (op : AluOp) (v : Byte) (s : State) :
    aluA op v s = { s with a := if op = .cp then s.a else (aluResult op s.a v s.f).1, f := (aluResult op s.a v s.f).2 } := rfl

/-- An ALU operation on A with a register or the byte at HL: A (but for CP), F and the port's record of the one
read. -/
theorem aluOperand_eq (op : AluOp) (o : Operand8) (s : State) :
    aluOperand op o s = { s with a := if op = .cp then s.a else (aluResult op s.a (operandValue o s) s.f).1, f := (aluResult op s.a (operandValue o s) s.f).2, bus := s.bus ++ operandReads o s } := by
  simp [aluOperand, aluA, readOperand_snd]

/-- INC of an operand as one write on the state with the read recorded and F written. -/
theorem incOperand_eq (o : Operand8) (s : State) :
    incOperand o s = writeOperand o (inc8 (operandValue o s) s.f).1 { s with f := (inc8 (operandValue o s) s.f).2, bus := s.bus ++ operandReads o s } := by
  simp [incOperand, readOperand_snd]

theorem decOperand_eq (o : Operand8) (s : State) :
    decOperand o s = writeOperand o (dec8 (operandValue o s) s.f).1 { s with f := (dec8 (operandValue o s) s.f).2, bus := s.bus ++ operandReads o s } := by
  simp [decOperand, readOperand_snd]

/-! ## Rotates, shifts and bit operations -/

theorem rotateA_eq (op : RotOp) (s : State) :
    rotateA op s = { s with a := (rotate op s.a (flagC s.f)).1, f := aflags (rotate op s.a (flagC s.f)).2 s.f } := rfl

theorem rotateOperand_eq (op : RotOp) (o : Operand8) (s : State) :
    rotateOperand op o s =
      writeOperand o (rotate op (operandValue o s) (flagC s.f)).1
        { s with f := cbflags (rotate op (operandValue o s) (flagC s.f)).1 (rotate op (operandValue o s) (flagC s.f)).2 s.f, bus := s.bus ++ operandReads o s } := by
  simp [rotateOperand, readOperand_snd]

theorem bitOperand_eq (b : Fin 8) (o : Operand8) (s : State) :
    bitOperand b o s = { s with f := bitFlags ((operandValue o s).getLsbD b.val) s.f, bus := s.bus ++ operandReads o s } := by
  simp [bitOperand, readOperand_snd]

theorem resOperand_eq (b : Fin 8) (o : Operand8) (s : State) :
    resOperand b o s = writeOperand o (operandValue o s &&& ~~~(1#8 <<< b.val)) { s with bus := s.bus ++ operandReads o s } := by
  simp [resOperand, readOperand_snd]

theorem setOperand_eq (b : Fin 8) (o : Operand8) (s : State) :
    setOperand b o s = writeOperand o (operandValue o s ||| (1#8 <<< b.val)) { s with bus := s.bus ++ operandReads o s } := by
  simp [setOperand, readOperand_snd]

/-! ## Loads and stores -/

theorem moveOperand_eq (dst src : Operand8) (s : State) :
    moveOperand dst src s = writeOperand dst (operandValue src s) { s with bus := s.bus ++ operandReads src s } := by
  simp [moveOperand, readOperand_snd]

theorem loadA_eq (addr : Word) (s : State) :
    loadA addr s = { s with a := s.readByte addr, bus := s.bus ++ [.read .data addr (s.readByte addr)] } := rfl

theorem storeA_eq (addr : Word) (s : State) :
    storeA addr s = { s with mem := s.mem.write addr.toNat s.a, bus := s.bus ++ [.write .data addr s.a] } := rfl

/-- The post-modification writes H and L at most. -/
theorem pointerAfter_eq (p : Pointer) (s : State) : pointerAfter p s = { s with h := (pointerAfter p s).h, l := (pointerAfter p s).l } := by
  cases p <;> rfl

theorem pointerAfter_hl (p : Pointer) (s : State) :
    (pointerAfter p s).hl = match p with
      | .BC | .DE => s.hl
      | .HLI => s.hl + 1
      | .HLD => s.hl - 1 := by
  cases p
  · rfl
  · rfl
  · exact mkWord_hi8_lo8 (s.hl + 1)
  · exact mkWord_hi8_lo8 (s.hl - 1)

/-- A load of A through a pointer: A, the port's record, and H and L at most. -/
theorem loadAPointer_eq (p : Pointer) (s : State) :
    loadAPointer p s = { s with a := s.readByte (pointerAddr p s), h := (loadAPointer p s).h, l := (loadAPointer p s).l, bus := s.bus ++ [.read .data (pointerAddr p s) (s.readByte (pointerAddr p s))] } := by
  cases p <;> rfl

/-- A store of A through a pointer: the byte at the OLD pointer, the port's record, and H and L at most. -/
theorem storeAPointer_eq (p : Pointer) (s : State) :
    storeAPointer p s = { s with h := (storeAPointer p s).h, l := (storeAPointer p s).l, mem := s.mem.write (pointerAddr p s).toNat s.a, bus := s.bus ++ [.write .data (pointerAddr p s) s.a] } := by
  cases p <;> rfl

theorem highPage_toNat (n : Byte) : (highPage n).toNat = 0xFF00 + n.toNat := by
  have := n.isLt
  simp [highPage, zext16, BitVec.toNat_add]
  omega

theorem highPage_eq (n : Byte) : highPage n = BitVec.ofNat 16 (0xFF00 + n.toNat) :=
  BitVec.eq_of_toNat_eq (by
    have := n.isLt
    rw [highPage_toNat, BitVec.toNat_ofNat, Nat.mod_eq_of_lt (by omega)])

/-! ## Register pairs (10_state.md R36 to R38) -/

@[simp] theorem State.hl_setHL (v : Word) (s : State) : (s.setHL v).hl = v := mkWord_hi8_lo8 v

/-- A pair read back after a pair write. -/
theorem State.pair_setPair (p : Pair) (v : Word) (s : State) : (s.setPair p v).pair p = v := by
  cases p <;> first | exact mkWord_hi8_lo8 v | rfl

theorem State.stackPair_setStackPair (p : StackPair) (v : Word) (s : State) (h : p ≠ .AF) : (s.setStackPair p v).stackPair p = v := by
  cases p <;> first | exact mkWord_hi8_lo8 v | exact absurd rfl h

theorem mkWord_hi8_masked (v : Word) : mkWord (hi8 v) (lo8 v &&& 0xF0#8) = v &&& 0xFFF0#16 := by
  have h : ∀ x y : Byte, mkWord x (y &&& 0xF0#8) = mkWord x y &&& 0xFFF0#16 := by
    intro x y
    unfold mkWord
    ext i hi
    simp
    interval_cases i <;> simp
  rw [h, mkWord_hi8_lo8]

/-- AF's write drops the low nibble (R41). -/
theorem State.af_setAF (v : Word) (s : State) : (s.setAF v).af = v &&& 0xFFF0#16 := mkWord_hi8_masked v

/-! ## Stack and control transfer -/

/-- Push16: SP, memory and the port's record. -/
theorem push16_eq (v : Word) (s : State) :
    push16 v s = { s with sp := s.sp - 2, mem := (s.mem.write (s.sp - 2).toNat (lo8 v)).write (s.sp - 2 + 1).toNat (hi8 v), bus := (s.bus ++ [.write .data (s.sp - 2) (lo8 v)]) ++ [.write .data (s.sp - 2 + 1) (hi8 v)] } := rfl

theorem push16_readByte (v : Word) (s : State) (y : Word) :
    (push16 v s).readByte y = if y = s.sp - 2 + 1 then hi8 v else if y = s.sp - 2 then lo8 v else s.readByte y :=
  State.readByte_store16 (s.sp - 2) y v { s with sp := s.sp - 2 }

/-- Pop16: SP and the port's record. -/
theorem pop16_eq (s : State) :
    pop16 s = (s.readWord s.sp, { s with sp := s.sp + 2, bus := (s.bus ++ [.read .data s.sp (s.readByte s.sp)]) ++ [.read .data (s.sp + 1) (s.readByte (s.sp + 1))] }) := rfl

theorem readWord_toNat (s : State) (x : Word) : (s.readWord x).toNat = (s.readByte x).toNat + 256 * (s.readByte (x + 1)).toNat := by
  rw [State.readWord, mkWord_toNat]
  omega

/-- Pop16 after Push16 gives the word back, from every SP (43_loads_stack.md R355). -/
theorem pop16_push16 (v : Word) (s : State) : (pop16 (push16 v s)).1 = v ∧ (pop16 (push16 v s)).2.sp = s.sp := by
  refine ⟨State.readWord_store16_same (s.sp - 2) v { s with sp := s.sp - 2 }, ?_⟩
  show s.sp - 2 + 2 = s.sp
  exact BitVec.sub_add_cancel s.sp 2

theorem jump_eq (taken : Bool) (target : Word) (s : State) : jump taken target s = if taken then { s with pc := target } else s := rfl

theorem call_eq (taken : Bool) (target : Word) (s : State) :
    call taken target s = if taken then { push16 s.pc s with pc := target } else s := rfl

theorem ret_eq (taken : Bool) (s : State) :
    ret taken s = if taken then { (pop16 s).2 with pc := (pop16 s).1 } else s := rfl

theorem returnFromInterrupt_eq (s : State) : returnFromInterrupt s = { ret true s with ime := true } := rfl

/-- The vector of line n (60_exceptions.md R511). -/
theorem irqVector_toNat (n : Fin 5) : (irqVector n).toNat = 0x40 + 8 * n.val := by revert n; decide

end Sys2Proof.Machine
end

