-- ==== Sys2Proof/Laws/Fetch.lean ====
section
/-! SUPPORT. The fetch and the step boundary: what the fetch of one, two and three bytes leaves, what a decoded
byte list looks like, and the cases of a step. -/

namespace Sys2Proof

/-- The three shapes of bytes that decode (30_encoding.md R120, R123). -/
theorem decode_cases (bytes rest : List Byte) (i : Instr) (h : decode bytes = .ok (i, rest)) :
    (∃ op, (formatOf op).length = 1 ∧ bytes = op :: rest ∧ i = decodeRow op 0 0) ∨
      (∃ op b1, (formatOf op).length = 2 ∧ bytes = op :: b1 :: rest ∧ i = decodeRow op b1 0) ∨
      ∃ op b1 b2, (formatOf op).length = 3 ∧ bytes = op :: b1 :: b2 :: rest ∧ i = decodeRow op b1 b2 := by
  unfold decode at h
  match bytes with
  | [] => cases h
  | op :: r =>
    simp only at h
    split at h <;> cases h
    · exact .inl ⟨op, by simp [*, Format.length], rfl, rfl⟩
    all_goals first
      | exact .inr (.inl ⟨op, _, by simp [*, Format.length], rfl, rfl⟩)
      | exact .inr (.inr ⟨op, _, _, by simp [*, Format.length], rfl, rfl⟩)

end Sys2Proof

namespace Sys2Proof.Machine

/-! ## The fetch (30_encoding.md R122) -/

@[simp] theorem fetchByte_snd_readByte (s : State) (x : Word) : (fetchByte s).2.readByte x = s.readByte x := rfl

/-- The bytes at an address depend on memory alone. -/
theorem bytesAt_congr (s t : State) (h : s.mem = t.mem) (x : Word) (n : Nat) : bytesAt s x n = bytesAt t x n := by
  induction n generalizing x with
  | zero => rfl
  | succ n ih => simp only [bytesAt, ih, State.readByte, h]

theorem fetchReads_congr (s t : State) (h : s.mem = t.mem) (x : Word) (n : Nat) : fetchReads s x n = fetchReads t x n := by
  induction n generalizing x with
  | zero => rfl
  | succ n ih => simp only [fetchReads, ih, State.readByte, h]

/-- Every transaction of a fetch is a fetch read. -/
theorem mem_fetchReads (s : State) (x : Word) (n : Nat) (b : BusTxn) (h : b ∈ fetchReads s x n) : ∃ a v, b = .read .fetch a v := by
  induction n generalizing x with
  | zero => cases h
  | succ n ih =>
    simp only [fetchReads, List.mem_cons] at h
    rcases h with rfl | h
    · exact ⟨_, _, rfl⟩
    · exact ih _ h

theorem fetchByte_eq (s : State) :
    fetchByte s = (s.readByte s.pc, { s with pc := s.pc + 1, bus := s.bus ++ [.read .fetch s.pc (s.readByte s.pc)] }) := rfl

/-- The fetch of a one-byte instruction. -/
theorem fetchInstr_one (s : State) (h : (formatOf (s.readByte s.pc)).length = 1) :
    fetchInstr s = (decodeRow (s.readByte s.pc) 0 0, { s with pc := s.pc + 1, bus := s.bus ++ fetchReads s s.pc 1 }) := by
  unfold fetchInstr
  cases hF : formatOf (s.readByte s.pc) <;> rw [hF] at h <;> first | (cases h; done) | (simp only [fetchByte_fst, hF]; rfl)

/-- The fetch of a two-byte instruction. -/
theorem fetchInstr_two (s : State) (h : (formatOf (s.readByte s.pc)).length = 2) :
    fetchInstr s = (decodeRow (s.readByte s.pc) (s.readByte (s.pc + 1)) 0, { s with pc := s.pc + 2, bus := s.bus ++ fetchReads s s.pc 2 }) := by
  have h2 : s.pc + 2 = s.pc + 1 + 1 := (BitVec.add_assoc s.pc 1 1).symm
  have hb : fetchReads s s.pc 2 = [.read .fetch s.pc (s.readByte s.pc)] ++ [.read .fetch (s.pc + 1) (s.readByte (s.pc + 1))] := rfl
  rw [hb, h2, ← List.append_assoc]
  unfold fetchInstr
  cases hF : formatOf (s.readByte s.pc) <;> rw [hF] at h <;> first
    | (cases h; done)
    | (simp only [fetchByte_fst, hF, fetchByte_snd_pc, fetchByte_snd_readByte]; rfl)

/-- The fetch of a three-byte instruction. -/
theorem fetchInstr_three (s : State) (h : (formatOf (s.readByte s.pc)).length = 3) :
    fetchInstr s = (decodeRow (s.readByte s.pc) (s.readByte (s.pc + 1)) (s.readByte (s.pc + 2)), { s with pc := s.pc + 3, bus := s.bus ++ fetchReads s s.pc 3 }) := by
  have h2 : s.pc + 2 = s.pc + 1 + 1 := (BitVec.add_assoc s.pc 1 1).symm
  have h3 : s.pc + 3 = s.pc + 1 + 1 + 1 := by rw [← h2, BitVec.add_assoc]; rfl
  have hb : fetchReads s s.pc 3 = [.read .fetch s.pc (s.readByte s.pc)] ++
      ([.read .fetch (s.pc + 1) (s.readByte (s.pc + 1))] ++ [.read .fetch (s.pc + 1 + 1) (s.readByte (s.pc + 1 + 1))]) := rfl
  rw [hb, h3, h2, ← List.append_assoc, ← List.append_assoc]
  unfold fetchInstr
  cases hF : formatOf (s.readByte s.pc) <;> rw [hF] at h <;> first
    | (cases h; done)
    | (simp only [fetchByte_fst, hF, fetchByte_snd_pc, fetchByte_snd_readByte]; simp only [fetchByte_eq, State.readByte])

/-- The fetch, whatever the instruction: PC and the port's record, with one, two or three fetch reads. -/
theorem fetchInstr_snd (s : State) :
    ∃ n, (n = 1 ∨ n = 2 ∨ n = 3) ∧ (fetchInstr s).2 = { s with pc := s.pc + BitVec.ofNat 16 n, bus := s.bus ++ fetchReads s s.pc n } := by
  have h : (formatOf (s.readByte s.pc)).length = 1 ∨ (formatOf (s.readByte s.pc)).length = 2 ∨ (formatOf (s.readByte s.pc)).length = 3 := by
    cases formatOf (s.readByte s.pc) <;> simp [Format.length]
  rcases h with h | h | h
  · exact ⟨1, .inl rfl, by rw [fetchInstr_one s h]; rfl⟩
  · exact ⟨2, .inr (.inl rfl), by rw [fetchInstr_two s h]; rfl⟩
  · exact ⟨3, .inr (.inr rfl), by rw [fetchInstr_three s h]; rfl⟩

/-! ## The step (60_exceptions.md R510) -/

/-- The start of a step that executes an instruction. -/
theorem promoteEi_beginStep (s : State) :
    promoteEi (beginStep s) = { s with ime := s.ime || s.eiPending, eiPending := false, irqInput := s.irqInput.tail, bus := [] } := by
  unfold promoteEi beginStep
  cases hp : s.eiPending <;> simp

theorem step_locked (s : State) (h : s.locked = true) : step s = .fault (.illegalOpcode s.illegalOpcode) := if_pos h

theorem step_interrupt (s : State) (n : Fin 5) (hl : s.locked = false) (h : acceptedLine s = some n) :
    step s = .next (enterInterrupt n (beginStep s)) := by
  unfold step
  simp [hl, h]

theorem step_instruction (s : State) (hl : s.locked = false) (h : acceptedLine s = none) :
    step s = exec (fetchInstr (promoteEi (beginStep s))).1 (fetchInstr (promoteEi (beginStep s))).2 := by
  unfold step
  simp [hl, h]

/-- With IME = 0 no line is accepted (60_exceptions.md R504). -/
theorem acceptedLine_masked (s : State) (h : s.ime = false) : acceptedLine s = none := by simp [acceptedLine, h]

/-- The line accepted with IME = 1 is the lowest-numbered requested one (60_exceptions.md R506). -/
theorem lowestLine_eq (irq : BitVec 5) (n : Fin 5) (hn : irq.getLsbD n.val = true) (hm : ∀ m : Nat, m < n.val → irq.getLsbD m = false) :
    lowestLine irq = some n := by
  revert irq n; decide

end Sys2Proof.Machine
end

