-- ==== Sys2Proof/Laws/Forms.lean ====
section
/-! SUPPORT. The 502 meanings as few forms: every instruction is one of the forms below over its operands, and
`exec` is running its form. A proof over all instructions goes by cases on the form. -/

namespace Sys2Proof.Machine

/-- The shape of an instruction: the shared operation that its meaning is one line over, with its operands.
A condition is none for an unconditional transfer. -/
inductive Form where
  | advance
  | aluImm (op : AluOp) (v : Byte)
  | alu (op : AluOp) (o : Operand8)
  | inc (o : Operand8)
  | dec (o : Operand8)
  | daa
  | cpl
  | scf
  | ccf
  | addHL (p : Pair)
  | incPair (p : Pair)
  | decPair (p : Pair)
  | addSP (n : Byte)
  | loadHLFromSP (n : Byte)
  | rotateA (op : RotOp)
  | rotate (op : RotOp) (o : Operand8)
  | bit (b : Fin 8) (o : Operand8)
  | res (b : Fin 8) (o : Operand8)
  | set (b : Fin 8) (o : Operand8)
  | move (dst src : Operand8)
  | immediate (o : Operand8) (v : Byte)
  | loadAPointer (p : Pointer)
  | storeAPointer (p : Pointer)
  | loadA (addr : Word)
  | storeA (addr : Word)
  | loadAHighC
  | storeAHighC
  | loadPair (p : Pair) (w : Word)
  | storeSP (addr : Word)
  | loadSPFromHL
  | push (p : StackPair)
  | pop (p : StackPair)
  | jump (cc : Option Cond) (target : Word)
  | jumpHL
  | jumpRelative (cc : Option Cond) (n : Byte)
  | call (cc : Option Cond) (target : Word)
  | ret (cc : Option Cond)
  | reti
  | di
  | ei
  | illegal (op : Byte)
deriving DecidableEq, Repr

/-- Whether a transfer with an optional condition is taken. -/
def taken (cc : Option Cond) (s : State) : Bool :=
  match cc with
  | none => true
  | some c => cond c s.f

/-- Running a form: the state after it. -/
def Form.run (i : Form) (s : State) : State :=
  match i with
  | .advance => s
  | .aluImm op v => aluA op v s
  | .alu op o => aluOperand op o s
  | .inc o => incOperand o s
  | .dec o => decOperand o s
  | .daa => writeAF8 (Machine.daa s.a s.f) s
  | .cpl => writeAF8 (Machine.cpl s.a s.f) s
  | .scf => { s with f := Machine.scf s.f }
  | .ccf => { s with f := Machine.ccf s.f }
  | .addHL p => Machine.addHL p s
  | .incPair p => Machine.incPair p s
  | .decPair p => Machine.decPair p s
  | .addSP n => Machine.addSP n s
  | .loadHLFromSP n => Machine.loadHLFromSP n s
  | .rotateA op => Machine.rotateA op s
  | .rotate op o => rotateOperand op o s
  | .bit b o => bitOperand b o s
  | .res b o => resOperand b o s
  | .set b o => setOperand b o s
  | .move dst src => moveOperand dst src s
  | .immediate o v => writeOperand o v s
  | .loadAPointer p => Machine.loadAPointer p s
  | .storeAPointer p => Machine.storeAPointer p s
  | .loadA addr => Machine.loadA addr s
  | .storeA addr => Machine.storeA addr s
  | .loadAHighC => Machine.loadA (highPage s.c) s
  | .storeAHighC => Machine.storeA (highPage s.c) s
  | .loadPair p w => s.setPair p w
  | .storeSP addr => s.store16 addr s.sp
  | .loadSPFromHL => { s with sp := s.hl }
  | .push p => pushPair p s
  | .pop p => popPair p s
  | .jump cc target => Machine.jump (taken cc s) target s
  | .jumpHL => Machine.jump true s.hl s
  | .jumpRelative cc n => Machine.jump (taken cc s) (s.pc + sext16 n) s
  | .call cc target => Machine.call (taken cc s) target s
  | .ret cc => Machine.ret (taken cc s) s
  | .reti => returnFromInterrupt s
  | .di => { s with ime := false, eiPending := false }
  | .ei => { s with eiPending := true }
  | .illegal op => raiseIllegal op s

/-- The form that the second byte of a CB pair selects (30_encoding.md R130). -/
def cbForm (op2 : Byte) : Form :=
  match xField op2 with
  | 0 => .rotate (rotOf (yField op2)) (operandOf (zField op2))
  | 1 => .bit (yField op2) (operandOf (zField op2))
  | 2 => .res (yField op2) (operandOf (zField op2))
  | 3 => .set (yField op2) (operandOf (zField op2))

theorem cbEntry_eq (op2 : Byte) (s : State) : cbEntry op2 s = (cbForm op2).run s := by
  unfold cbEntry cbForm
  generalize xField op2 = x
  match x with
  | 0 | 1 | 2 | 3 => rfl

/-- The form of each instruction. -/
def formOf (i : Instr) : Form :=
  match i with
  | .nop => .advance
  | .ld_BC_d16 w => .loadPair .BC w
  | .ld_mBC_A => .storeAPointer .BC
  | .inc_BC => .incPair .BC
  | .inc_B => .inc (.reg .B)
  | .dec_B => .dec (.reg .B)
  | .ld_B_d8 d => .immediate (.reg .B) d
  | .rlca => .rotateA .rlc
  | .ld_ma16_SP w => .storeSP w
  | .add_HL_BC => .addHL .BC
  | .ld_A_mBC => .loadAPointer .BC
  | .dec_BC => .decPair .BC
  | .inc_C => .inc (.reg .C)
  | .dec_C => .dec (.reg .C)
  | .ld_C_d8 d => .immediate (.reg .C) d
  | .rrca => .rotateA .rrc
  | .stop _ => .advance
  | .ld_DE_d16 w => .loadPair .DE w
  | .ld_mDE_A => .storeAPointer .DE
  | .inc_DE => .incPair .DE
  | .inc_D => .inc (.reg .D)
  | .dec_D => .dec (.reg .D)
  | .ld_D_d8 d => .immediate (.reg .D) d
  | .rla => .rotateA .rl
  | .jr_e8 e => .jumpRelative none e
  | .add_HL_DE => .addHL .DE
  | .ld_A_mDE => .loadAPointer .DE
  | .dec_DE => .decPair .DE
  | .inc_E => .inc (.reg .E)
  | .dec_E => .dec (.reg .E)
  | .ld_E_d8 d => .immediate (.reg .E) d
  | .rra => .rotateA .rr
  | .jr_NZ_e8 e => .jumpRelative (some .NZ) e
  | .ld_HL_d16 w => .loadPair .HL w
  | .ld_mHLI_A => .storeAPointer .HLI
  | .inc_HL => .incPair .HL
  | .inc_H => .inc (.reg .H)
  | .dec_H => .dec (.reg .H)
  | .ld_H_d8 d => .immediate (.reg .H) d
  | .daa => .daa
  | .jr_Z_e8 e => .jumpRelative (some .Z) e
  | .add_HL_HL => .addHL .HL
  | .ld_A_mHLI => .loadAPointer .HLI
  | .dec_HL => .decPair .HL
  | .inc_L => .inc (.reg .L)
  | .dec_L => .dec (.reg .L)
  | .ld_L_d8 d => .immediate (.reg .L) d
  | .cpl => .cpl
  | .jr_NC_e8 e => .jumpRelative (some .NC) e
  | .ld_SP_d16 w => .loadPair .SP w
  | .ld_mHLD_A => .storeAPointer .HLD
  | .inc_SP => .incPair .SP
  | .inc_mHL => .inc .mHL
  | .dec_mHL => .dec .mHL
  | .ld_mHL_d8 d => .immediate .mHL d
  | .scf => .scf
  | .jr_C_e8 e => .jumpRelative (some .C) e
  | .add_HL_SP => .addHL .SP
  | .ld_A_mHLD => .loadAPointer .HLD
  | .dec_SP => .decPair .SP
  | .inc_A => .inc (.reg .A)
  | .dec_A => .dec (.reg .A)
  | .ld_A_d8 d => .immediate (.reg .A) d
  | .ccf => .ccf
  | .ld_B_B => .move (.reg .B) (.reg .B)
  | .ld_B_C => .move (.reg .B) (.reg .C)
  | .ld_B_D => .move (.reg .B) (.reg .D)
  | .ld_B_E => .move (.reg .B) (.reg .E)
  | .ld_B_H => .move (.reg .B) (.reg .H)
  | .ld_B_L => .move (.reg .B) (.reg .L)
  | .ld_B_mHL => .move (.reg .B) .mHL
  | .ld_B_A => .move (.reg .B) (.reg .A)
  | .ld_C_B => .move (.reg .C) (.reg .B)
  | .ld_C_C => .move (.reg .C) (.reg .C)
  | .ld_C_D => .move (.reg .C) (.reg .D)
  | .ld_C_E => .move (.reg .C) (.reg .E)
  | .ld_C_H => .move (.reg .C) (.reg .H)
  | .ld_C_L => .move (.reg .C) (.reg .L)
  | .ld_C_mHL => .move (.reg .C) .mHL
  | .ld_C_A => .move (.reg .C) (.reg .A)
  | .ld_D_B => .move (.reg .D) (.reg .B)
  | .ld_D_C => .move (.reg .D) (.reg .C)
  | .ld_D_D => .move (.reg .D) (.reg .D)
  | .ld_D_E => .move (.reg .D) (.reg .E)
  | .ld_D_H => .move (.reg .D) (.reg .H)
  | .ld_D_L => .move (.reg .D) (.reg .L)
  | .ld_D_mHL => .move (.reg .D) .mHL
  | .ld_D_A => .move (.reg .D) (.reg .A)
  | .ld_E_B => .move (.reg .E) (.reg .B)
  | .ld_E_C => .move (.reg .E) (.reg .C)
  | .ld_E_D => .move (.reg .E) (.reg .D)
  | .ld_E_E => .move (.reg .E) (.reg .E)
  | .ld_E_H => .move (.reg .E) (.reg .H)
  | .ld_E_L => .move (.reg .E) (.reg .L)
  | .ld_E_mHL => .move (.reg .E) .mHL
  | .ld_E_A => .move (.reg .E) (.reg .A)
  | .ld_H_B => .move (.reg .H) (.reg .B)
  | .ld_H_C => .move (.reg .H) (.reg .C)
  | .ld_H_D => .move (.reg .H) (.reg .D)
  | .ld_H_E => .move (.reg .H) (.reg .E)
  | .ld_H_H => .move (.reg .H) (.reg .H)
  | .ld_H_L => .move (.reg .H) (.reg .L)
  | .ld_H_mHL => .move (.reg .H) .mHL
  | .ld_H_A => .move (.reg .H) (.reg .A)
  | .ld_L_B => .move (.reg .L) (.reg .B)
  | .ld_L_C => .move (.reg .L) (.reg .C)
  | .ld_L_D => .move (.reg .L) (.reg .D)
  | .ld_L_E => .move (.reg .L) (.reg .E)
  | .ld_L_H => .move (.reg .L) (.reg .H)
  | .ld_L_L => .move (.reg .L) (.reg .L)
  | .ld_L_mHL => .move (.reg .L) .mHL
  | .ld_L_A => .move (.reg .L) (.reg .A)
  | .ld_mHL_B => .move .mHL (.reg .B)
  | .ld_mHL_C => .move .mHL (.reg .C)
  | .ld_mHL_D => .move .mHL (.reg .D)
  | .ld_mHL_E => .move .mHL (.reg .E)
  | .ld_mHL_H => .move .mHL (.reg .H)
  | .ld_mHL_L => .move .mHL (.reg .L)
  | .halt => .advance
  | .ld_mHL_A => .move .mHL (.reg .A)
  | .ld_A_B => .move (.reg .A) (.reg .B)
  | .ld_A_C => .move (.reg .A) (.reg .C)
  | .ld_A_D => .move (.reg .A) (.reg .D)
  | .ld_A_E => .move (.reg .A) (.reg .E)
  | .ld_A_H => .move (.reg .A) (.reg .H)
  | .ld_A_L => .move (.reg .A) (.reg .L)
  | .ld_A_mHL => .move (.reg .A) .mHL
  | .ld_A_A => .move (.reg .A) (.reg .A)
  | .add_A_B => .alu .add (.reg .B)
  | .add_A_C => .alu .add (.reg .C)
  | .add_A_D => .alu .add (.reg .D)
  | .add_A_E => .alu .add (.reg .E)
  | .add_A_H => .alu .add (.reg .H)
  | .add_A_L => .alu .add (.reg .L)
  | .add_A_mHL => .alu .add .mHL
  | .add_A_A => .alu .add (.reg .A)
  | .adc_A_B => .alu .adc (.reg .B)
  | .adc_A_C => .alu .adc (.reg .C)
  | .adc_A_D => .alu .adc (.reg .D)
  | .adc_A_E => .alu .adc (.reg .E)
  | .adc_A_H => .alu .adc (.reg .H)
  | .adc_A_L => .alu .adc (.reg .L)
  | .adc_A_mHL => .alu .adc .mHL
  | .adc_A_A => .alu .adc (.reg .A)
  | .sub_B => .alu .sub (.reg .B)
  | .sub_C => .alu .sub (.reg .C)
  | .sub_D => .alu .sub (.reg .D)
  | .sub_E => .alu .sub (.reg .E)
  | .sub_H => .alu .sub (.reg .H)
  | .sub_L => .alu .sub (.reg .L)
  | .sub_mHL => .alu .sub .mHL
  | .sub_A => .alu .sub (.reg .A)
  | .sbc_A_B => .alu .sbc (.reg .B)
  | .sbc_A_C => .alu .sbc (.reg .C)
  | .sbc_A_D => .alu .sbc (.reg .D)
  | .sbc_A_E => .alu .sbc (.reg .E)
  | .sbc_A_H => .alu .sbc (.reg .H)
  | .sbc_A_L => .alu .sbc (.reg .L)
  | .sbc_A_mHL => .alu .sbc .mHL
  | .sbc_A_A => .alu .sbc (.reg .A)
  | .and_B => .alu .and (.reg .B)
  | .and_C => .alu .and (.reg .C)
  | .and_D => .alu .and (.reg .D)
  | .and_E => .alu .and (.reg .E)
  | .and_H => .alu .and (.reg .H)
  | .and_L => .alu .and (.reg .L)
  | .and_mHL => .alu .and .mHL
  | .and_A => .alu .and (.reg .A)
  | .xor_B => .alu .xor (.reg .B)
  | .xor_C => .alu .xor (.reg .C)
  | .xor_D => .alu .xor (.reg .D)
  | .xor_E => .alu .xor (.reg .E)
  | .xor_H => .alu .xor (.reg .H)
  | .xor_L => .alu .xor (.reg .L)
  | .xor_mHL => .alu .xor .mHL
  | .xor_A => .alu .xor (.reg .A)
  | .or_B => .alu .or (.reg .B)
  | .or_C => .alu .or (.reg .C)
  | .or_D => .alu .or (.reg .D)
  | .or_E => .alu .or (.reg .E)
  | .or_H => .alu .or (.reg .H)
  | .or_L => .alu .or (.reg .L)
  | .or_mHL => .alu .or .mHL
  | .or_A => .alu .or (.reg .A)
  | .cp_B => .alu .cp (.reg .B)
  | .cp_C => .alu .cp (.reg .C)
  | .cp_D => .alu .cp (.reg .D)
  | .cp_E => .alu .cp (.reg .E)
  | .cp_H => .alu .cp (.reg .H)
  | .cp_L => .alu .cp (.reg .L)
  | .cp_mHL => .alu .cp .mHL
  | .cp_A => .alu .cp (.reg .A)
  | .ret_NZ => .ret (some .NZ)
  | .pop_BC => .pop .BC
  | .jp_NZ_a16 w => .jump (some .NZ) w
  | .jp_a16 w => .jump none w
  | .call_NZ_a16 w => .call (some .NZ) w
  | .push_BC => .push .BC
  | .add_A_d8 d => .aluImm .add d
  | .rst_00h => .call none 0x0000
  | .ret_Z => .ret (some .Z)
  | .ret => .ret none
  | .jp_Z_a16 w => .jump (some .Z) w
  | .prefix_CB op2 => cbForm op2
  | .call_Z_a16 w => .call (some .Z) w
  | .call_a16 w => .call none w
  | .adc_A_d8 d => .aluImm .adc d
  | .rst_08h => .call none 0x0008
  | .ret_NC => .ret (some .NC)
  | .pop_DE => .pop .DE
  | .jp_NC_a16 w => .jump (some .NC) w
  | .illegal op => .illegal op
  | .call_NC_a16 w => .call (some .NC) w
  | .push_DE => .push .DE
  | .sub_d8 d => .aluImm .sub d
  | .rst_10h => .call none 0x0010
  | .ret_C => .ret (some .C)
  | .reti => .reti
  | .jp_C_a16 w => .jump (some .C) w
  | .call_C_a16 w => .call (some .C) w
  | .sbc_A_d8 d => .aluImm .sbc d
  | .rst_18h => .call none 0x0018
  | .ldh_ma8_A n => .storeA (highPage n)
  | .pop_HL => .pop .HL
  | .ldh_mC_A => .storeAHighC
  | .push_HL => .push .HL
  | .and_d8 d => .aluImm .and d
  | .rst_20h => .call none 0x0020
  | .add_SP_e8 e => .addSP e
  | .jp_HL => .jumpHL
  | .ld_ma16_A w => .storeA w
  | .xor_d8 d => .aluImm .xor d
  | .rst_28h => .call none 0x0028
  | .ldh_A_ma8 n => .loadA (highPage n)
  | .pop_AF => .pop .AF
  | .ldh_A_mC => .loadAHighC
  | .di => .di
  | .push_AF => .push .AF
  | .or_d8 d => .aluImm .or d
  | .rst_30h => .call none 0x0030
  | .ld_HL_SPe8 e => .loadHLFromSP e
  | .ld_SP_HL => .loadSPFromHL
  | .ld_A_ma16 w => .loadA w
  | .ei => .ei
  | .cp_d8 d => .aluImm .cp d
  | .rst_38h => .call none 0x0038
  | .rlc_B => .rotate .rlc (.reg .B)
  | .rlc_C => .rotate .rlc (.reg .C)
  | .rlc_D => .rotate .rlc (.reg .D)
  | .rlc_E => .rotate .rlc (.reg .E)
  | .rlc_H => .rotate .rlc (.reg .H)
  | .rlc_L => .rotate .rlc (.reg .L)
  | .rlc_mHL => .rotate .rlc .mHL
  | .rlc_A => .rotate .rlc (.reg .A)
  | .rrc_B => .rotate .rrc (.reg .B)
  | .rrc_C => .rotate .rrc (.reg .C)
  | .rrc_D => .rotate .rrc (.reg .D)
  | .rrc_E => .rotate .rrc (.reg .E)
  | .rrc_H => .rotate .rrc (.reg .H)
  | .rrc_L => .rotate .rrc (.reg .L)
  | .rrc_mHL => .rotate .rrc .mHL
  | .rrc_A => .rotate .rrc (.reg .A)
  | .rl_B => .rotate .rl (.reg .B)
  | .rl_C => .rotate .rl (.reg .C)
  | .rl_D => .rotate .rl (.reg .D)
  | .rl_E => .rotate .rl (.reg .E)
  | .rl_H => .rotate .rl (.reg .H)
  | .rl_L => .rotate .rl (.reg .L)
  | .rl_mHL => .rotate .rl .mHL
  | .rl_A => .rotate .rl (.reg .A)
  | .rr_B => .rotate .rr (.reg .B)
  | .rr_C => .rotate .rr (.reg .C)
  | .rr_D => .rotate .rr (.reg .D)
  | .rr_E => .rotate .rr (.reg .E)
  | .rr_H => .rotate .rr (.reg .H)
  | .rr_L => .rotate .rr (.reg .L)
  | .rr_mHL => .rotate .rr .mHL
  | .rr_A => .rotate .rr (.reg .A)
  | .sla_B => .rotate .sla (.reg .B)
  | .sla_C => .rotate .sla (.reg .C)
  | .sla_D => .rotate .sla (.reg .D)
  | .sla_E => .rotate .sla (.reg .E)
  | .sla_H => .rotate .sla (.reg .H)
  | .sla_L => .rotate .sla (.reg .L)
  | .sla_mHL => .rotate .sla .mHL
  | .sla_A => .rotate .sla (.reg .A)
  | .sra_B => .rotate .sra (.reg .B)
  | .sra_C => .rotate .sra (.reg .C)
  | .sra_D => .rotate .sra (.reg .D)
  | .sra_E => .rotate .sra (.reg .E)
  | .sra_H => .rotate .sra (.reg .H)
  | .sra_L => .rotate .sra (.reg .L)
  | .sra_mHL => .rotate .sra .mHL
  | .sra_A => .rotate .sra (.reg .A)
  | .swap_B => .rotate .swap (.reg .B)
  | .swap_C => .rotate .swap (.reg .C)
  | .swap_D => .rotate .swap (.reg .D)
  | .swap_E => .rotate .swap (.reg .E)
  | .swap_H => .rotate .swap (.reg .H)
  | .swap_L => .rotate .swap (.reg .L)
  | .swap_mHL => .rotate .swap .mHL
  | .swap_A => .rotate .swap (.reg .A)
  | .srl_B => .rotate .srl (.reg .B)
  | .srl_C => .rotate .srl (.reg .C)
  | .srl_D => .rotate .srl (.reg .D)
  | .srl_E => .rotate .srl (.reg .E)
  | .srl_H => .rotate .srl (.reg .H)
  | .srl_L => .rotate .srl (.reg .L)
  | .srl_mHL => .rotate .srl .mHL
  | .srl_A => .rotate .srl (.reg .A)
  | .bit_0_B => .bit 0 (.reg .B)
  | .bit_0_C => .bit 0 (.reg .C)
  | .bit_0_D => .bit 0 (.reg .D)
  | .bit_0_E => .bit 0 (.reg .E)
  | .bit_0_H => .bit 0 (.reg .H)
  | .bit_0_L => .bit 0 (.reg .L)
  | .bit_0_mHL => .bit 0 .mHL
  | .bit_0_A => .bit 0 (.reg .A)
  | .bit_1_B => .bit 1 (.reg .B)
  | .bit_1_C => .bit 1 (.reg .C)
  | .bit_1_D => .bit 1 (.reg .D)
  | .bit_1_E => .bit 1 (.reg .E)
  | .bit_1_H => .bit 1 (.reg .H)
  | .bit_1_L => .bit 1 (.reg .L)
  | .bit_1_mHL => .bit 1 .mHL
  | .bit_1_A => .bit 1 (.reg .A)
  | .bit_2_B => .bit 2 (.reg .B)
  | .bit_2_C => .bit 2 (.reg .C)
  | .bit_2_D => .bit 2 (.reg .D)
  | .bit_2_E => .bit 2 (.reg .E)
  | .bit_2_H => .bit 2 (.reg .H)
  | .bit_2_L => .bit 2 (.reg .L)
  | .bit_2_mHL => .bit 2 .mHL
  | .bit_2_A => .bit 2 (.reg .A)
  | .bit_3_B => .bit 3 (.reg .B)
  | .bit_3_C => .bit 3 (.reg .C)
  | .bit_3_D => .bit 3 (.reg .D)
  | .bit_3_E => .bit 3 (.reg .E)
  | .bit_3_H => .bit 3 (.reg .H)
  | .bit_3_L => .bit 3 (.reg .L)
  | .bit_3_mHL => .bit 3 .mHL
  | .bit_3_A => .bit 3 (.reg .A)
  | .bit_4_B => .bit 4 (.reg .B)
  | .bit_4_C => .bit 4 (.reg .C)
  | .bit_4_D => .bit 4 (.reg .D)
  | .bit_4_E => .bit 4 (.reg .E)
  | .bit_4_H => .bit 4 (.reg .H)
  | .bit_4_L => .bit 4 (.reg .L)
  | .bit_4_mHL => .bit 4 .mHL
  | .bit_4_A => .bit 4 (.reg .A)
  | .bit_5_B => .bit 5 (.reg .B)
  | .bit_5_C => .bit 5 (.reg .C)
  | .bit_5_D => .bit 5 (.reg .D)
  | .bit_5_E => .bit 5 (.reg .E)
  | .bit_5_H => .bit 5 (.reg .H)
  | .bit_5_L => .bit 5 (.reg .L)
  | .bit_5_mHL => .bit 5 .mHL
  | .bit_5_A => .bit 5 (.reg .A)
  | .bit_6_B => .bit 6 (.reg .B)
  | .bit_6_C => .bit 6 (.reg .C)
  | .bit_6_D => .bit 6 (.reg .D)
  | .bit_6_E => .bit 6 (.reg .E)
  | .bit_6_H => .bit 6 (.reg .H)
  | .bit_6_L => .bit 6 (.reg .L)
  | .bit_6_mHL => .bit 6 .mHL
  | .bit_6_A => .bit 6 (.reg .A)
  | .bit_7_B => .bit 7 (.reg .B)
  | .bit_7_C => .bit 7 (.reg .C)
  | .bit_7_D => .bit 7 (.reg .D)
  | .bit_7_E => .bit 7 (.reg .E)
  | .bit_7_H => .bit 7 (.reg .H)
  | .bit_7_L => .bit 7 (.reg .L)
  | .bit_7_mHL => .bit 7 .mHL
  | .bit_7_A => .bit 7 (.reg .A)
  | .res_0_B => .res 0 (.reg .B)
  | .res_0_C => .res 0 (.reg .C)
  | .res_0_D => .res 0 (.reg .D)
  | .res_0_E => .res 0 (.reg .E)
  | .res_0_H => .res 0 (.reg .H)
  | .res_0_L => .res 0 (.reg .L)
  | .res_0_mHL => .res 0 .mHL
  | .res_0_A => .res 0 (.reg .A)
  | .res_1_B => .res 1 (.reg .B)
  | .res_1_C => .res 1 (.reg .C)
  | .res_1_D => .res 1 (.reg .D)
  | .res_1_E => .res 1 (.reg .E)
  | .res_1_H => .res 1 (.reg .H)
  | .res_1_L => .res 1 (.reg .L)
  | .res_1_mHL => .res 1 .mHL
  | .res_1_A => .res 1 (.reg .A)
  | .res_2_B => .res 2 (.reg .B)
  | .res_2_C => .res 2 (.reg .C)
  | .res_2_D => .res 2 (.reg .D)
  | .res_2_E => .res 2 (.reg .E)
  | .res_2_H => .res 2 (.reg .H)
  | .res_2_L => .res 2 (.reg .L)
  | .res_2_mHL => .res 2 .mHL
  | .res_2_A => .res 2 (.reg .A)
  | .res_3_B => .res 3 (.reg .B)
  | .res_3_C => .res 3 (.reg .C)
  | .res_3_D => .res 3 (.reg .D)
  | .res_3_E => .res 3 (.reg .E)
  | .res_3_H => .res 3 (.reg .H)
  | .res_3_L => .res 3 (.reg .L)
  | .res_3_mHL => .res 3 .mHL
  | .res_3_A => .res 3 (.reg .A)
  | .res_4_B => .res 4 (.reg .B)
  | .res_4_C => .res 4 (.reg .C)
  | .res_4_D => .res 4 (.reg .D)
  | .res_4_E => .res 4 (.reg .E)
  | .res_4_H => .res 4 (.reg .H)
  | .res_4_L => .res 4 (.reg .L)
  | .res_4_mHL => .res 4 .mHL
  | .res_4_A => .res 4 (.reg .A)
  | .res_5_B => .res 5 (.reg .B)
  | .res_5_C => .res 5 (.reg .C)
  | .res_5_D => .res 5 (.reg .D)
  | .res_5_E => .res 5 (.reg .E)
  | .res_5_H => .res 5 (.reg .H)
  | .res_5_L => .res 5 (.reg .L)
  | .res_5_mHL => .res 5 .mHL
  | .res_5_A => .res 5 (.reg .A)
  | .res_6_B => .res 6 (.reg .B)
  | .res_6_C => .res 6 (.reg .C)
  | .res_6_D => .res 6 (.reg .D)
  | .res_6_E => .res 6 (.reg .E)
  | .res_6_H => .res 6 (.reg .H)
  | .res_6_L => .res 6 (.reg .L)
  | .res_6_mHL => .res 6 .mHL
  | .res_6_A => .res 6 (.reg .A)
  | .res_7_B => .res 7 (.reg .B)
  | .res_7_C => .res 7 (.reg .C)
  | .res_7_D => .res 7 (.reg .D)
  | .res_7_E => .res 7 (.reg .E)
  | .res_7_H => .res 7 (.reg .H)
  | .res_7_L => .res 7 (.reg .L)
  | .res_7_mHL => .res 7 .mHL
  | .res_7_A => .res 7 (.reg .A)
  | .set_0_B => .set 0 (.reg .B)
  | .set_0_C => .set 0 (.reg .C)
  | .set_0_D => .set 0 (.reg .D)
  | .set_0_E => .set 0 (.reg .E)
  | .set_0_H => .set 0 (.reg .H)
  | .set_0_L => .set 0 (.reg .L)
  | .set_0_mHL => .set 0 .mHL
  | .set_0_A => .set 0 (.reg .A)
  | .set_1_B => .set 1 (.reg .B)
  | .set_1_C => .set 1 (.reg .C)
  | .set_1_D => .set 1 (.reg .D)
  | .set_1_E => .set 1 (.reg .E)
  | .set_1_H => .set 1 (.reg .H)
  | .set_1_L => .set 1 (.reg .L)
  | .set_1_mHL => .set 1 .mHL
  | .set_1_A => .set 1 (.reg .A)
  | .set_2_B => .set 2 (.reg .B)
  | .set_2_C => .set 2 (.reg .C)
  | .set_2_D => .set 2 (.reg .D)
  | .set_2_E => .set 2 (.reg .E)
  | .set_2_H => .set 2 (.reg .H)
  | .set_2_L => .set 2 (.reg .L)
  | .set_2_mHL => .set 2 .mHL
  | .set_2_A => .set 2 (.reg .A)
  | .set_3_B => .set 3 (.reg .B)
  | .set_3_C => .set 3 (.reg .C)
  | .set_3_D => .set 3 (.reg .D)
  | .set_3_E => .set 3 (.reg .E)
  | .set_3_H => .set 3 (.reg .H)
  | .set_3_L => .set 3 (.reg .L)
  | .set_3_mHL => .set 3 .mHL
  | .set_3_A => .set 3 (.reg .A)
  | .set_4_B => .set 4 (.reg .B)
  | .set_4_C => .set 4 (.reg .C)
  | .set_4_D => .set 4 (.reg .D)
  | .set_4_E => .set 4 (.reg .E)
  | .set_4_H => .set 4 (.reg .H)
  | .set_4_L => .set 4 (.reg .L)
  | .set_4_mHL => .set 4 .mHL
  | .set_4_A => .set 4 (.reg .A)
  | .set_5_B => .set 5 (.reg .B)
  | .set_5_C => .set 5 (.reg .C)
  | .set_5_D => .set 5 (.reg .D)
  | .set_5_E => .set 5 (.reg .E)
  | .set_5_H => .set 5 (.reg .H)
  | .set_5_L => .set 5 (.reg .L)
  | .set_5_mHL => .set 5 .mHL
  | .set_5_A => .set 5 (.reg .A)
  | .set_6_B => .set 6 (.reg .B)
  | .set_6_C => .set 6 (.reg .C)
  | .set_6_D => .set 6 (.reg .D)
  | .set_6_E => .set 6 (.reg .E)
  | .set_6_H => .set 6 (.reg .H)
  | .set_6_L => .set 6 (.reg .L)
  | .set_6_mHL => .set 6 .mHL
  | .set_6_A => .set 6 (.reg .A)
  | .set_7_B => .set 7 (.reg .B)
  | .set_7_C => .set 7 (.reg .C)
  | .set_7_D => .set 7 (.reg .D)
  | .set_7_E => .set 7 (.reg .E)
  | .set_7_H => .set 7 (.reg .H)
  | .set_7_L => .set 7 (.reg .L)
  | .set_7_mHL => .set 7 .mHL
  | .set_7_A => .set 7 (.reg .A)

/-- Every instruction completes, and its meaning is running its form: the whole of what `exec` can do
(60_exceptions.md R500: every opcode is total). -/
theorem exec_eq_run (i : Instr) (s : State) : exec i s = .next ((formOf i).run s) := by
  cases i <;> first | rfl | exact congrArg Host.Outcome.next (cbEntry_eq _ s)

/-- The one next state of an instruction. -/
theorem exec_next_iff (i : Instr) (s t : State) : exec i s = .next t ↔ t = (formOf i).run s := by
  rw [exec_eq_run]
  exact ⟨fun h => (Host.Outcome.next.inj h).symm, fun h => h ▸ rfl⟩

end Sys2Proof.Machine
end

