-- ==== Sys2Proof/Laws/Frames.lean ====
section
/-! SUPPORT. The frame of every form, one lemma per part of the state: which forms can change it, and that the
others do not. -/

namespace Sys2Proof.Machine

/-! ## Classes of forms -/

def isMemory : Operand8 → Bool
  | .mHL => true
  | .reg _ => false

def isSP : Pair → Bool
  | .SP => true
  | .BC | .DE | .HL => false

def isAF : StackPair → Bool
  | .AF => true
  | .BC | .DE | .HL => false

def Form.writesFlags : Form → Bool
  | .aluImm _ _ | .alu _ _ | .inc _ | .dec _ | .daa | .cpl | .scf | .ccf | .addHL _ | .addSP _ | .loadHLFromSP _ | .rotateA _
  | .rotate _ _ | .bit _ _ => true
  | .pop p => isAF p
  | _ => false

def Form.writesIme : Form → Bool
  | .di | .ei | .reti => true
  | _ => false

def Form.writesSp : Form → Bool
  | .incPair p | .decPair p | .loadPair p _ => isSP p
  | .loadSPFromHL | .addSP _ | .push _ | .pop _ | .call _ _ | .ret _ | .reti => true
  | _ => false

def Form.writesPc : Form → Bool
  | .jump _ _ | .jumpHL | .jumpRelative _ _ | .call _ _ | .ret _ | .reti => true
  | _ => false

def Form.stores : Form → Bool
  | .inc o | .dec o | .rotate _ o | .res _ o | .set _ o | .move o _ | .immediate o _ => isMemory o
  | .storeAPointer _ | .storeA _ | .storeAHighC | .storeSP _ | .push _ | .call _ _ => true
  | _ => false

def Form.isIllegal : Form → Bool
  | .illegal _ => true
  | _ => false

/-! ## The frame of each part of the state -/

/-- Taken or not, a jump writes PC at most. -/
theorem jump_frame (t : Bool) (w : Word) (s : State) : jump t w s = { s with pc := (jump t w s).pc } := by cases t <;> rfl

/-- Taken or not, a call writes PC, SP, memory and the port's record at most. -/
theorem call_frame (t : Bool) (w : Word) (s : State) :
    call t w s = { s with pc := (call t w s).pc, sp := (call t w s).sp, mem := (call t w s).mem, bus := (call t w s).bus } := by cases t <;> rfl

/-- Taken or not, a return writes PC, SP and the port's record at most. -/
theorem ret_frame (t : Bool) (s : State) : ret t s = { s with pc := (ret t s).pc, sp := (ret t s).sp, bus := (ret t s).bus } := by cases t <;> rfl

/-- What no form touches. -/
theorem Form.run_irq (i : Form) (s : State) : (i.run s).irqInput = s.irqInput ∧ (i.run s).irqAck = s.irqAck := by
  cases i
  case alu op o => simp [run, aluOperand_eq]
  case bit b o => simp [run, bitOperand_eq]
  case loadAPointer p => cases p <;> exact ⟨rfl, rfl⟩
  case storeAPointer p => cases p <;> exact ⟨rfl, rfl⟩
  case jump c w => simp only [run]; rw [jump_frame]; exact ⟨rfl, rfl⟩
  case jumpRelative c n => simp only [run]; rw [jump_frame]; exact ⟨rfl, rfl⟩
  case call c w => simp only [run]; rw [call_frame]; exact ⟨rfl, rfl⟩
  case ret c => simp only [run]; rw [ret_frame]; exact ⟨rfl, rfl⟩
  all_goals first
    | exact ⟨rfl, rfl⟩
    | simp [run, incOperand_eq, decOperand_eq, rotateOperand_eq, resOperand_eq, setOperand_eq, moveOperand_eq, Machine.incPair, Machine.decPair, popPair]

theorem Form.run_f (i : Form) (s : State) (h : i.writesFlags = false) : (i.run s).f = s.f := by
  cases i
  case loadAPointer p => cases p <;> rfl
  case storeAPointer p => cases p <;> rfl
  case jump c w => simp only [run]; rw [jump_frame]
  case jumpRelative c n => simp only [run]; rw [jump_frame]
  case call c w => simp only [run]; rw [call_frame]
  case ret c => simp only [run]; rw [ret_frame]
  case pop p => cases p <;> first | rfl | cases h
  all_goals first
    | rfl
    | (cases h; done)
    | simp [run, resOperand_eq, setOperand_eq, moveOperand_eq, Machine.incPair, Machine.decPair]

theorem Form.run_ime (i : Form) (s : State) (h : i.writesIme = false) : (i.run s).ime = s.ime ∧ (i.run s).eiPending = s.eiPending := by
  cases i
  case alu op o => simp [run, aluOperand_eq]
  case bit b o => simp [run, bitOperand_eq]
  case loadAPointer p => cases p <;> exact ⟨rfl, rfl⟩
  case storeAPointer p => cases p <;> exact ⟨rfl, rfl⟩
  case jump c w => simp only [run]; rw [jump_frame]; exact ⟨rfl, rfl⟩
  case jumpRelative c n => simp only [run]; rw [jump_frame]; exact ⟨rfl, rfl⟩
  case call c w => simp only [run]; rw [call_frame]; exact ⟨rfl, rfl⟩
  case ret c => simp only [run]; rw [ret_frame]; exact ⟨rfl, rfl⟩
  all_goals first
    | exact ⟨rfl, rfl⟩
    | (cases h; done)
    | simp [run, incOperand_eq, decOperand_eq, rotateOperand_eq, resOperand_eq, setOperand_eq, moveOperand_eq, Machine.incPair, Machine.decPair, popPair]

theorem Form.run_lock (i : Form) (s : State) (h : i.isIllegal = false) :
    (i.run s).locked = s.locked ∧ (i.run s).illegalOpcode = s.illegalOpcode := by
  cases i
  case alu op o => simp [run, aluOperand_eq]
  case bit b o => simp [run, bitOperand_eq]
  case loadAPointer p => cases p <;> exact ⟨rfl, rfl⟩
  case storeAPointer p => cases p <;> exact ⟨rfl, rfl⟩
  case jump c w => simp only [run]; rw [jump_frame]; exact ⟨rfl, rfl⟩
  case jumpRelative c n => simp only [run]; rw [jump_frame]; exact ⟨rfl, rfl⟩
  case call c w => simp only [run]; rw [call_frame]; exact ⟨rfl, rfl⟩
  case ret c => simp only [run]; rw [ret_frame]; exact ⟨rfl, rfl⟩
  all_goals first
    | exact ⟨rfl, rfl⟩
    | (cases h; done)
    | simp [run, incOperand_eq, decOperand_eq, rotateOperand_eq, resOperand_eq, setOperand_eq, moveOperand_eq, Machine.incPair, Machine.decPair, popPair]

theorem Form.run_sp (i : Form) (s : State) (h : i.writesSp = false) : (i.run s).sp = s.sp := by
  cases i
  case alu op o => simp [run, aluOperand_eq]
  case bit b o => simp [run, bitOperand_eq]
  case loadAPointer p => cases p <;> rfl
  case storeAPointer p => cases p <;> rfl
  case jump c w => simp only [run]; rw [jump_frame]
  case jumpRelative c n => simp only [run]; rw [jump_frame]
  case incPair p => cases p <;> first | rfl | cases h
  case decPair p => cases p <;> first | rfl | cases h
  case loadPair p w => cases p <;> first | rfl | cases h
  all_goals first
    | rfl
    | (cases h; done)
    | simp [run, incOperand_eq, decOperand_eq, rotateOperand_eq, resOperand_eq, setOperand_eq, moveOperand_eq]

theorem Form.run_pc (i : Form) (s : State) (h : i.writesPc = false) : (i.run s).pc = s.pc := by
  cases i
  case alu op o => simp [run, aluOperand_eq]
  case bit b o => simp [run, bitOperand_eq]
  case loadAPointer p => cases p <;> rfl
  case storeAPointer p => cases p <;> rfl
  all_goals first
    | rfl
    | (cases h; done)
    | simp [run, incOperand_eq, decOperand_eq, rotateOperand_eq, resOperand_eq, setOperand_eq, moveOperand_eq, Machine.incPair, Machine.decPair, popPair]

theorem Form.run_mem (i : Form) (s : State) (h : i.stores = false) : (i.run s).mem = s.mem := by
  cases i
  case alu op o => simp [run, aluOperand_eq]
  case bit b o => simp [run, bitOperand_eq]
  case loadAPointer p => cases p <;> rfl
  case jump c w => simp only [run]; rw [jump_frame]
  case jumpRelative c n => simp only [run]; rw [jump_frame]
  case ret c => simp only [run]; rw [ret_frame]
  case inc o => cases o <;> first | (cases h; done) | simp [run, incOperand_eq, writeOperand]
  case dec o => cases o <;> first | (cases h; done) | simp [run, decOperand_eq, writeOperand]
  case rotate op o => cases o <;> first | (cases h; done) | simp [run, rotateOperand_eq, writeOperand]
  case res b o => cases o <;> first | (cases h; done) | simp [run, resOperand_eq, writeOperand]
  case set b o => cases o <;> first | (cases h; done) | simp [run, setOperand_eq, writeOperand]
  case move d o => cases d <;> first | (cases h; done) | simp [run, moveOperand_eq, writeOperand]
  case immediate o v => cases o <;> first | (cases h; done) | simp [run, writeOperand]
  all_goals first
    | rfl
    | (cases h; done)
    | simp [run, Machine.incPair, Machine.decPair, popPair]

/-- Every form keeps the bus contents canonical. -/
theorem Form.run_wf (i : Form) (s : State) (h : s.mem.wf = true) : (i.run s).mem.wf = true := by
  by_cases hs : i.stores = false
  · rw [Form.run_mem i s hs]; exact h
  · cases i <;> first | exact absurd rfl hs | skip
    case inc o => rw [run, incOperand_eq]; exact wf_writeOperand _ _ _ h
    case dec o => rw [run, decOperand_eq]; exact wf_writeOperand _ _ _ h
    case rotate op o => rw [run, rotateOperand_eq]; exact wf_writeOperand _ _ _ h
    case res b o => rw [run, resOperand_eq]; exact wf_writeOperand _ _ _ h
    case set b o => rw [run, setOperand_eq]; exact wf_writeOperand _ _ _ h
    case move d o => rw [run, moveOperand_eq]; exact wf_writeOperand _ _ _ h
    case immediate o v => exact wf_writeOperand _ _ _ h
    case storeAPointer p => rw [run, storeAPointer_eq]; exact Memory.wf_write_word _ _ _ h
    case storeA x => exact Memory.wf_write_word _ _ _ h
    case storeAHighC => exact Memory.wf_write_word _ _ _ h
    case storeSP x => exact State.wf_store16 _ _ _ h
    case push p => exact wf_push16 _ _ h
    case call c w =>
      simp only [run, Machine.call]
      split
      · exact wf_push16 _ _ h
      · exact h

/-- Every form but POP AF keeps F's low nibble, and POP AF clears it (10_state.md R41). -/
theorem Form.run_low (i : Form) (s : State) (h : s.f &&& 0x0F#8 = 0) : (i.run s).f &&& 0x0F#8 = 0 := by
  by_cases hf : i.writesFlags = false
  · rw [Form.run_f i s hf]; exact h
  · cases i <;> first | exact absurd rfl hf | skip
    case pop p => cases p <;> first | exact absurd rfl hf | exact and_F0_and_low _
    case aluImm op v => simpa [run, aluA_eq] using h
    case alu op o => simpa [run, aluOperand_eq] using h
    case inc o => simpa [run, incOperand_eq] using h
    case dec o => simpa [run, decOperand_eq] using h
    case rotate op o => simpa [run, rotateOperand_eq] using h
    case bit b o => simpa [run, bitOperand_eq] using h
    case daa => exact (daa_and_low _ _).trans h
    case cpl => exact (cpl_and_low s.a s.f).trans h
    case scf => exact (scf_and_low _).trans h
    case ccf => exact (ccf_and_low _).trans h
    case addHL p => exact (add16_and_low _ _ _).trans h
    case addSP n => exact (addsp_and_low _ _ _).trans h
    case loadHLFromSP n => exact (addsp_and_low _ _ _).trans h
    case rotateA op => exact (aflags_and_low _ _).trans h

end Sys2Proof.Machine
end

