-- ==== Sys2Proof/Laws/Rows.lean ====
section
/-! SUPPORT. What `exec` does with each family of rows that Decode.lean names at once, and what the decoder's rows
encode to. -/

namespace Sys2Proof.Machine

/-! ## The meaning of a family of rows -/

theorem exec_incRow (o : Operand8) (s : State) : exec (incRow o) s = .next (incOperand o s) := by
  rcases o with r | _
  · cases r <;> rfl
  · rfl

theorem exec_decRow (o : Operand8) (s : State) : exec (decRow o) s = .next (decOperand o s) := by
  rcases o with r | _
  · cases r <;> rfl
  · rfl

theorem exec_ldImmRow (o : Operand8) (d : Byte) (s : State) : exec (ldImmRow o d) s = .next (writeOperand o d s) := by
  rcases o with r | _
  · cases r <;> rfl
  · rfl

theorem exec_ldRow (dst src : Operand8) (s : State) (h : ¬(dst = .mHL ∧ src = .mHL)) :
    exec (ldRow dst src) s = .next (moveOperand dst src s) := by
  rcases dst with q | _ <;> rcases src with r | _
  · cases q <;> cases r <;> rfl
  · cases q <;> rfl
  · cases r <;> rfl
  · exact absurd ⟨rfl, rfl⟩ h

theorem exec_aluRow (op : AluOp) (o : Operand8) (s : State) : exec (aluRow op o) s = .next (aluOperand op o s) := by
  rcases o with r | _
  · cases op <;> cases r <;> rfl
  · cases op <;> rfl

theorem exec_aluImmRow (op : AluOp) (d : Byte) (s : State) : exec (aluImmRow op d) s = .next (aluA op d s) := by cases op <;> rfl

theorem exec_ldPairRow (p : Pair) (w : Word) (s : State) : exec (ldPairRow p w) s = .next (s.setPair p w) := by cases p <;> rfl

theorem exec_addHLRow (p : Pair) (s : State) : exec (addHLRow p) s = .next (addHL p s) := by cases p <;> rfl

theorem exec_incPairRow (p : Pair) (s : State) : exec (incPairRow p) s = .next (incPair p s) := by cases p <;> rfl

theorem exec_decPairRow (p : Pair) (s : State) : exec (decPairRow p) s = .next (decPair p s) := by cases p <;> rfl

theorem exec_jrRow (c : Cond) (n : Byte) (s : State) : exec (jrRow c n) s = .next (jump (cond c s.f) (s.pc + sext16 n) s) := by
  cases c <;> rfl

theorem exec_jpRow (c : Cond) (w : Word) (s : State) : exec (jpRow c w) s = .next (jump (cond c s.f) w s) := by cases c <;> rfl

theorem exec_callRow (c : Cond) (w : Word) (s : State) : exec (callRow c w) s = .next (call (cond c s.f) w s) := by cases c <;> rfl

theorem exec_retRow (c : Cond) (s : State) : exec (retRow c) s = .next (ret (cond c s.f) s) := by cases c <;> rfl

theorem exec_pushRow (p : StackPair) (s : State) : exec (pushRow p) s = .next (pushPair p s) := by cases p <;> rfl

theorem exec_popRow (p : StackPair) (s : State) : exec (popRow p) s = .next (popPair p s) := by cases p <;> rfl

theorem exec_rstRow (y : Fin 8) (s : State) : exec (rstRow y) s = .next (call true (BitVec.ofNat 16 (8 * y.val)) s) := by
  match y with
  | 0 | 1 | 2 | 3 | 4 | 5 | 6 | 7 => rfl

theorem exec_rotRow (op : RotOp) (o : Operand8) (s : State) : exec (rotRow op o) s = .next (rotateOperand op o s) := by
  rcases o with r | _
  · cases op <;> cases r <;> rfl
  · cases op <;> rfl

theorem exec_bitRow (b : Fin 8) (o : Operand8) (s : State) : exec (bitRow b o) s = .next (bitOperand b o s) := by
  match b with
  | 0 | 1 | 2 | 3 | 4 | 5 | 6 | 7 =>
    rcases o with r | _
    · cases r <;> rfl
    · rfl

theorem exec_resRow (b : Fin 8) (o : Operand8) (s : State) : exec (resRow b o) s = .next (resOperand b o s) := by
  match b with
  | 0 | 1 | 2 | 3 | 4 | 5 | 6 | 7 =>
    rcases o with r | _
    · cases r <;> rfl
    · rfl

theorem exec_setRow (b : Fin 8) (o : Operand8) (s : State) : exec (setRow b o) s = .next (setOperand b o s) := by
  match b with
  | 0 | 1 | 2 | 3 | 4 | 5 | 6 | 7 =>
    rcases o with r | _
    · cases r <;> rfl
    · rfl

/-- The form of a CB-table entry is the form the prefix selects (45_system.md R415). -/
theorem formOf_decodeCb (op2 : Byte) : formOf (decodeCb op2) = cbForm op2 := by revert op2; decide

end Sys2Proof.Machine

namespace Sys2Proof

/-! ## What the rows of the decoder encode to (30_encoding.md R120, R123) -/

theorem encode_row_one (op : Byte) (h : (formatOf op).length = 1) :
    encode (decodeRow op 0 0) = [op] ∧ (decodeRow op 0 0).wellFormed = true := by revert op; decide

theorem encode_row_cb (op2 : Byte) : encode (decodeCb op2) = [0xCB, op2] ∧ (decodeCb op2).wellFormed = true := by revert op2; decide

theorem encode_row_two (op b1 : Byte) (h : (formatOf op).length = 2 ∧ op ≠ 0xCB) :
    encode (decodeRow op b1 0) = [op, b1] ∧ (decodeRow op b1 0).wellFormed = true := by
  have key : ∀ o : Byte, (formatOf o).length = 2 ∧ o ≠ 0xCB → o ∈ ([0x06, 0x0E, 0x10, 0x16, 0x18, 0x1E, 0x20, 0x26, 0x28, 0x2E, 0x30, 0x36, 0x38, 0x3E, 0xC6, 0xCE,
      0xD6, 0xDE, 0xE0, 0xE6, 0xE8, 0xEE, 0xF0, 0xF6, 0xF8, 0xFE] : List Byte) := by decide
  have hm := key op h
  simp only [List.mem_cons, List.not_mem_nil, or_false] at hm
  rcases hm with rfl | rfl | rfl | rfl | rfl | rfl | rfl | rfl | rfl | rfl | rfl | rfl | rfl | rfl | rfl | rfl | rfl
      | rfl | rfl | rfl | rfl | rfl | rfl | rfl | rfl | rfl <;> exact ⟨rfl, rfl⟩

theorem encode_row_three (op b1 b2 : Byte) (h : (formatOf op).length = 3) :
    encode (decodeRow op b1 b2) = op :: wordBytes (mkWord b2 b1) ∧ (decodeRow op b1 b2).wellFormed = true := by
  have key : ∀ o : Byte, (formatOf o).length = 3 → o ∈ ([0x01, 0x08, 0x11, 0x21, 0x31, 0xC2, 0xC3, 0xC4, 0xCA, 0xCC, 0xCD, 0xD2, 0xD4, 0xDA, 0xDC, 0xEA,
      0xFA] : List Byte) := by decide
  have hm := key op h
  simp only [List.mem_cons, List.not_mem_nil, or_false] at hm
  rcases hm with rfl | rfl | rfl | rfl | rfl | rfl | rfl | rfl | rfl | rfl | rfl | rfl | rfl | rfl | rfl | rfl | rfl <;> exact ⟨rfl, rfl⟩

end Sys2Proof
end

