-- ==== Sys2Proof/Tests/Slice0.lean ====
section
/-! SUPPORT. The model's own tests: every word of the two grids of 30_encoding.md R135 and R136 decodes to the
instruction it stands for, every constructor but `prefix_CB` among them (no bytes spell that one, 45_system.md
R415); one step for each rule that has a one-step vector in 95_test_vectors.md; and, for each statement of
Certificates/Slice0/Obligations.lean with hypotheses, states and operands that meet them.
The expected words are the grids', with immediates 0x34 and 0x1234 (low byte first, R124); the expected results
are the vectors' of 95_test_vectors.md, but where a docstring names another rule. -/

namespace Sys2Proof.Tests

open Sys2Proof.Machine

/-- The instruction that all of `bytes` spell, if they spell exactly one. -/
def whole (bytes : List Byte) : Option Instr :=
  match decode bytes with
  | .ok (i, []) => some i
  | _ => none

/-- The state after one step from `s` with the cells `cells` and, at PC, the bytes `bytes`. -/
def after (cells : List Host.Cell) (bytes : List Byte) (s : State) : Option State :=
  match step { s with mem := (cells.foldl (fun m c => m.write c.1 c.2) s.mem).writeList s.pc.toNat bytes } with
  | .next t => some t
  | _ => none

/-! ## Well-formedness: one ill-formed term for each check -/

/-- `illegal` stands only for the eleven unassigned opcodes (30_encoding.md R137). -/
theorem test_wellFormed_illegal :
    (Instr.illegal 0x00).wellFormed = false ∧ (Instr.illegal 0xCB).wellFormed = false ∧
      (Instr.illegal 0xFE).wellFormed = false ∧ (Instr.illegal 0xD3).wellFormed = true ∧
      (Instr.illegal 0xFD).wellFormed = true := by decide

/-- The prefix is never an instruction on its own (45_system.md R415). -/
theorem test_wellFormed_prefix_CB :
    (Instr.prefix_CB 0x37).wellFormed = false ∧ Instr.swap_A.wellFormed = true ∧ Instr.nop.wellFormed = true := by decide

/-- A cut instruction is rejected by name, as is nothing at all (30_encoding.md R122 to R124). -/
theorem test_decode_truncated :
    whole [] = none ∧ whole [0xCB] = none ∧ whole [0x10] = none ∧ whole [0x3E] = none ∧ whole [0xC3, 0x00] = none := by decide

/-! ## The whole-machine rules, and the interface the host reads -/

/-- 20_memory.md R84, R86, 10_state.md R34: an instruction may straddle the top of the bus. -/
theorem test_fetch_wraps :
    (after [(0x0000, 0x34), (0x0001, 0x12)] [0x21] { State.reset with pc := 0xFFFF }).map (fun t => (t.hl, t.pc)) =
      some (0x1234, 0x0002) := by decide

/-- 20_memory.md R98, R99: CALL fetches three bytes in address order, then writes the low byte first. -/
theorem test_bus_of_call :
    (after [] [0xCD, 0x00, 0x02] { State.reset with pc := 0x0150 }).map (fun t => t.bus) =
      some [.read .fetch 0x0150 0xCD, .read .fetch 0x0151 0x00, .read .fetch 0x0152 0x02, .write .data 0xFFFC 0x53,
        .write .data 0xFFFD 0x01] := by decide

/-- 45_system.md R413, R414: DI right after EI cancels it, the second step of V184. -/
theorem test_di_cancels_ei :
    (after [] [0xF3] { State.reset with eiPending := true }).map (fun t => (t.ime, t.eiPending)) = some (false, false) := by
  decide

/-- 45_system.md R421: a locked core completes no step, whatever is requested. -/
theorem test_locked : after [] [0x3C] { State.reset with locked := true, ime := true, irqInput := [0b00001] } = none := by
  decide

/-- The table's word of a row, stored where the next step fetches, is the instruction that runs. -/
theorem test_withFetchWord :
    (match step (State.reset.withFetchWord 16 0x053E) with | .next t => some (t.a, t.pc) | _ => none) =
      some (0x05, 0x0102) ∧ decodeTableWord 16 0x053E = some (.ld_A_d8 0x05) ∧
      decodeTableWord 16 0xCB37 = some .swap_A ∧ decodeTableWord 8 0xD3 = some (.illegal 0xD3) := by decide

/-- The memory's canonical form: rising addresses, no zero byte, on the bus; writing zero removes the cell. -/
theorem test_memory_form :
    Memory.wf [(1, 5), (2, 6)] = true ∧ Memory.wf [(2, 6), (1, 5)] = false ∧ Memory.wf [(1, 0)] = false ∧
      Memory.wf [(0x10000, 1)] = false ∧ Memory.write [(1, 5), (2, 6)] 1 0 = [(2, 6)] ∧
      Memory.write [(1, 5), (3, 6)] 2 9 = [(1, 5), (2, 9), (3, 6)] := by decide

/-! ## Witnesses: for each statement with hypotheses, states and operands that meet them all -/

/-- A running state with `NOP; LD (HL+),A` at PC, HL = 0xFFFF. -/
def running : State := { State.reset with a := 0x12, h := 0xFF, l := 0xFF, pc := 0x0150, mem := [(0x0151, 0x22)] }

/-- DecodeOfEncodeIsTheInstruction: at a word, at the last unassigned opcode, with bytes after them. -/
theorem witness_DecodeOfEncodeIsTheInstruction :
    (Instr.ld_BC_d16 0xFFFF).wellFormed = true ∧ (Instr.illegal 0xFD).wellFormed = true ∧
      (Instr.set_7_mHL).wellFormed = true := by decide

/-- DecodedBytesAreTheEncodingAndEveryOpcodeDecodes. -/
theorem witness_DecodedBytesAreTheEncoding : decode [0xCB, 0xFF, 0x00] = .ok (.set_7_A, [0x00]) := by rfl

/-- StepRunsTheDecodedInstruction, at a state of the middle and at the top of the bus. -/
theorem witness_StepRunsTheDecodedInstruction :
    Statement.Runs .nop running ∧ Statement.Runs .ld_mHLI_A { running with pc := 0x0151 } ∧
      Statement.Runs .nop { running with pc := 0xFFFF, ime := true, irqInput := [0] } :=
  ⟨⟨rfl, rfl, _, rfl⟩, ⟨rfl, rfl, _, rfl⟩, ⟨rfl, rfl, _, rfl⟩⟩

/-- InterruptEntryPushesPcAndJumpsToTheVector, at the first line and at the last. -/
theorem witness_InterruptEntry :
    (∃ s : State, s.locked = false ∧ s.ime = true ∧ s.irqSample.getLsbD (0 : Fin 5).val = true ∧
      ∀ m : Nat, m < (0 : Fin 5).val → s.irqSample.getLsbD m = false) ∧
    ∃ s : State, s.locked = false ∧ s.ime = true ∧ s.irqSample.getLsbD (4 : Fin 5).val = true ∧
      ∀ m : Nat, m < (4 : Fin 5).val → s.irqSample.getLsbD m = false :=
  ⟨⟨{ running with ime := true, irqInput := [0b11111] }, by decide⟩,
    ⟨{ running with ime := true, sp := 0x0001, irqInput := [0b10000] }, by decide⟩⟩

/-- MaskedRequestsHaveNoEffect. -/
theorem witness_MaskedRequests : running.ime = false ∧ ∃ t, step { running with irqInput := [0b11111] } = .next t :=
  ⟨rfl, _, rfl⟩

/-- EiTakesEffectAfterTheNextInstruction: NOP after EI, with line 1 requested at the boundary after it. -/
theorem witness_EiTakesEffect :
    ∃ s t : State, ∃ rest, s.locked = false ∧ acceptedLine s = none ∧ s.eiPending = true ∧ s.ime = false ∧
      decode (bytesAt s s.pc 3) = .ok (.nop, rest) ∧ step s = .next t ∧ Instr.nop.writesIme = false ∧
      Instr.nop ≠ .di ∧ (∀ op, Instr.nop ≠ .illegal op) ∧ lowestLine t.irqSample = some 1 :=
  ⟨{ running with eiPending := true, irqInput := [0b00010, 0b00010] }, _, _, rfl, rfl, rfl, rfl, rfl, rfl, rfl,
    by decide, by decide, rfl⟩

/-- OnlyALockedCoreStops, each clause. -/
theorem witness_OnlyALockedCoreStops :
    running.locked = false ∧ ({ running with locked := true, illegalOpcode := some ⟨0xD3, 0x0150⟩ } : State).locked = true :=
  ⟨rfl, rfl⟩

/-- PowerOnGivesTheResetValuesAndTheImage, each clause at its bound: a full bus, and one byte more. -/
theorem witness_PowerOn :
    (List.replicate 0x10000 (0xFF : Byte)).length ≤ 0x10000 ∧ ([] : List Byte).length ≤ 0x10000 ∧
      0x10000 < (List.replicate 0x10001 (0xFF : Byte)).length := by
  simp only [List.length_replicate]; decide

/-- EveryStepKeepsTheStateLegal: a step that stores, and one that locks the core. -/
theorem witness_EveryStepKeepsTheStateLegal :
    (∃ s t : State, s.legal = true ∧ step s = .next t ∧ t.mem ≠ s.mem) ∧
      ∃ s t : State, s.legal = true ∧ step s = .next t ∧ t.locked = true :=
  ⟨⟨{ running with pc := 0x0151 }, _, by decide, rfl, by decide⟩, ⟨{ running with mem := [(0x0150, 0xD3)] }, _, by decide, rfl, rfl⟩⟩

/-- TheBusPortAccountsForEveryStore: an instruction that stores, and an interrupt entry. -/
theorem witness_TheBusPort :
    (∃ t, step { running with pc := 0x0151 } = .next t) ∧ ∃ t, step { running with ime := true, irqInput := [1] } = .next t :=
  ⟨⟨_, rfl⟩, ⟨_, rfl⟩⟩

/-- DirectMemoryAccessTouchesMemoryOnly: its last clause. -/
theorem witness_DirectMemoryAccess : running.mem.wf = true := by decide

/-- DaaAfterAddIsDecimalAddition, at the bounds of the digits. -/
theorem witness_DaaAfterAdd : Statement.Bcd 0x99 ∧ Statement.Bcd 0x00 ∧ Statement.Bcd 0x90 ∧ ¬Statement.Bcd 0x9A := by
  unfold Statement.Bcd; decide

/-- DaaAdjustsByTheFlagsAndTheOldA: each value of N. -/
theorem witness_DaaAdjusts : flagN (0x00 : Byte) = false ∧ flagN (0xF0 : Byte) = true := by decide

/-- LdCopiesTheSource: a register from memory and memory from a register. -/
theorem witness_LdCopiesTheSource :
    ¬((Operand8.reg .A) = .mHL ∧ Operand8.mHL = .mHL) ∧ ¬(Operand8.mHL = .mHL ∧ (Operand8.reg .A) = .mHL) := by decide

/-- PopAfterPushReturnsTheWord and PairsAreViewsOfTheRegisters: each case of the pair. -/
theorem witness_PopAfterPush : StackPair.BC ≠ .AF ∧ StackPair.AF = .AF := by decide

/-- UnassignedOpcodesLockTheCore: its second clause. -/
theorem witness_UnassignedOpcodes : (0xFD : Byte) ∈ unassignedOpcodes := by decide

/-- PrefixCbExecutesTheCbTableEntry: its last clause, with the second byte at the bottom of the bus. -/
theorem witness_PrefixCb :
    ∃ s : State, s.locked = false ∧ acceptedLine s = none ∧ s.readByte s.pc = 0xCB ∧ s.readByte (s.pc + 1) = 0x37 :=
  ⟨{ running with pc := 0xFFFF, mem := [(0x0000, 0x37), (0xFFFF, 0xCB)] }, by decide⟩

/-- OnlyTheListedInstructionsWriteFlags: a load and a jump are not listed, and they complete. -/
theorem witness_OnlyTheListedInstructionsWriteFlags :
    Instr.ld_A_B.writesFlags = false ∧ (Instr.jp_a16 0).writesFlags = false ∧ (∃ t, exec .ld_A_B running = .next t) ∧
      Instr.pop_AF.writesFlags = true ∧ Instr.pop_BC.writesFlags = false := ⟨rfl, rfl, ⟨_, rfl⟩, rfl, rfl⟩

/-- OnlyTheListedInstructionsWriteTheHiddenState. -/
theorem witness_OnlyTheListedInstructionsWriteTheHiddenState :
    (∃ t, exec .ret running = .next t) ∧ Instr.ret.writesIme = false ∧ (∀ op, Instr.ret ≠ .illegal op) :=
  ⟨⟨_, rfl⟩, rfl, by decide⟩

/-- OnlyTheListedInstructionsWriteSpOrMemory. -/
theorem witness_OnlyTheListedInstructionsWriteSpOrMemory :
    (∃ t, exec .ld_A_mHL running = .next t) ∧ Instr.ld_A_mHL.writesSp = false ∧ Instr.ld_A_mHL.storesMemory = false :=
  ⟨⟨_, rfl⟩, rfl, rfl⟩

/-- PcAdvancesByTheLength: at 0xFFFF, where PC wraps. -/
theorem witness_PcAdvancesByTheLength :
    Statement.Runs .nop { running with pc := 0xFFFF } ∧ Instr.nop.transfersControl = false ∧
      ∃ t, step { running with pc := 0xFFFF } = .next t := ⟨⟨rfl, rfl, _, rfl⟩, rfl, _, rfl⟩

/-! ## Decoding: the two grids, row by row -/

/-- Row 0x of the grid of R135. -/
theorem test_decode_primary_0x :
    whole [0x00] = some .nop ∧ whole [0x01, 0x34, 0x12] = some (.ld_BC_d16 0x1234) ∧ whole [0x02] = some .ld_mBC_A ∧
      whole [0x03] = some .inc_BC ∧ whole [0x04] = some .inc_B ∧ whole [0x05] = some .dec_B ∧
      whole [0x06, 0x34] = some (.ld_B_d8 0x34) ∧ whole [0x07] = some .rlca ∧
      whole [0x08, 0x34, 0x12] = some (.ld_ma16_SP 0x1234) ∧ whole [0x09] = some .add_HL_BC ∧
      whole [0x0A] = some .ld_A_mBC ∧ whole [0x0B] = some .dec_BC ∧ whole [0x0C] = some .inc_C ∧
      whole [0x0D] = some .dec_C ∧ whole [0x0E, 0x34] = some (.ld_C_d8 0x34) ∧ whole [0x0F] = some .rrca := by decide

/-- Row 1x of the grid of R135. -/
theorem test_decode_primary_1x :
    whole [0x10, 0x34] = some (.stop 0x34) ∧ whole [0x11, 0x34, 0x12] = some (.ld_DE_d16 0x1234) ∧
      whole [0x12] = some .ld_mDE_A ∧ whole [0x13] = some .inc_DE ∧ whole [0x14] = some .inc_D ∧
      whole [0x15] = some .dec_D ∧ whole [0x16, 0x34] = some (.ld_D_d8 0x34) ∧ whole [0x17] = some .rla ∧
      whole [0x18, 0x34] = some (.jr_e8 0x34) ∧ whole [0x19] = some .add_HL_DE ∧ whole [0x1A] = some .ld_A_mDE ∧
      whole [0x1B] = some .dec_DE ∧ whole [0x1C] = some .inc_E ∧ whole [0x1D] = some .dec_E ∧
      whole [0x1E, 0x34] = some (.ld_E_d8 0x34) ∧ whole [0x1F] = some .rra := by decide

/-- Row 2x of the grid of R135. -/
theorem test_decode_primary_2x :
    whole [0x20, 0x34] = some (.jr_NZ_e8 0x34) ∧ whole [0x21, 0x34, 0x12] = some (.ld_HL_d16 0x1234) ∧
      whole [0x22] = some .ld_mHLI_A ∧ whole [0x23] = some .inc_HL ∧ whole [0x24] = some .inc_H ∧
      whole [0x25] = some .dec_H ∧ whole [0x26, 0x34] = some (.ld_H_d8 0x34) ∧ whole [0x27] = some .daa ∧
      whole [0x28, 0x34] = some (.jr_Z_e8 0x34) ∧ whole [0x29] = some .add_HL_HL ∧ whole [0x2A] = some .ld_A_mHLI ∧
      whole [0x2B] = some .dec_HL ∧ whole [0x2C] = some .inc_L ∧ whole [0x2D] = some .dec_L ∧
      whole [0x2E, 0x34] = some (.ld_L_d8 0x34) ∧ whole [0x2F] = some .cpl := by decide

/-- Row 3x of the grid of R135. -/
theorem test_decode_primary_3x :
    whole [0x30, 0x34] = some (.jr_NC_e8 0x34) ∧ whole [0x31, 0x34, 0x12] = some (.ld_SP_d16 0x1234) ∧
      whole [0x32] = some .ld_mHLD_A ∧ whole [0x33] = some .inc_SP ∧ whole [0x34] = some .inc_mHL ∧
      whole [0x35] = some .dec_mHL ∧ whole [0x36, 0x34] = some (.ld_mHL_d8 0x34) ∧ whole [0x37] = some .scf ∧
      whole [0x38, 0x34] = some (.jr_C_e8 0x34) ∧ whole [0x39] = some .add_HL_SP ∧ whole [0x3A] = some .ld_A_mHLD ∧
      whole [0x3B] = some .dec_SP ∧ whole [0x3C] = some .inc_A ∧ whole [0x3D] = some .dec_A ∧
      whole [0x3E, 0x34] = some (.ld_A_d8 0x34) ∧ whole [0x3F] = some .ccf := by decide

/-- Row 4x of the grid of R135. -/
theorem test_decode_primary_4x :
    whole [0x40] = some .ld_B_B ∧ whole [0x41] = some .ld_B_C ∧ whole [0x42] = some .ld_B_D ∧
      whole [0x43] = some .ld_B_E ∧ whole [0x44] = some .ld_B_H ∧ whole [0x45] = some .ld_B_L ∧
      whole [0x46] = some .ld_B_mHL ∧ whole [0x47] = some .ld_B_A ∧ whole [0x48] = some .ld_C_B ∧
      whole [0x49] = some .ld_C_C ∧ whole [0x4A] = some .ld_C_D ∧ whole [0x4B] = some .ld_C_E ∧
      whole [0x4C] = some .ld_C_H ∧ whole [0x4D] = some .ld_C_L ∧ whole [0x4E] = some .ld_C_mHL ∧
      whole [0x4F] = some .ld_C_A := by decide

/-- Row 5x of the grid of R135. -/
theorem test_decode_primary_5x :
    whole [0x50] = some .ld_D_B ∧ whole [0x51] = some .ld_D_C ∧ whole [0x52] = some .ld_D_D ∧
      whole [0x53] = some .ld_D_E ∧ whole [0x54] = some .ld_D_H ∧ whole [0x55] = some .ld_D_L ∧
      whole [0x56] = some .ld_D_mHL ∧ whole [0x57] = some .ld_D_A ∧ whole [0x58] = some .ld_E_B ∧
      whole [0x59] = some .ld_E_C ∧ whole [0x5A] = some .ld_E_D ∧ whole [0x5B] = some .ld_E_E ∧
      whole [0x5C] = some .ld_E_H ∧ whole [0x5D] = some .ld_E_L ∧ whole [0x5E] = some .ld_E_mHL ∧
      whole [0x5F] = some .ld_E_A := by decide

/-- Row 6x of the grid of R135. -/
theorem test_decode_primary_6x :
    whole [0x60] = some .ld_H_B ∧ whole [0x61] = some .ld_H_C ∧ whole [0x62] = some .ld_H_D ∧
      whole [0x63] = some .ld_H_E ∧ whole [0x64] = some .ld_H_H ∧ whole [0x65] = some .ld_H_L ∧
      whole [0x66] = some .ld_H_mHL ∧ whole [0x67] = some .ld_H_A ∧ whole [0x68] = some .ld_L_B ∧
      whole [0x69] = some .ld_L_C ∧ whole [0x6A] = some .ld_L_D ∧ whole [0x6B] = some .ld_L_E ∧
      whole [0x6C] = some .ld_L_H ∧ whole [0x6D] = some .ld_L_L ∧ whole [0x6E] = some .ld_L_mHL ∧
      whole [0x6F] = some .ld_L_A := by decide

/-- Row 7x of the grid of R135. -/
theorem test_decode_primary_7x :
    whole [0x70] = some .ld_mHL_B ∧ whole [0x71] = some .ld_mHL_C ∧ whole [0x72] = some .ld_mHL_D ∧
      whole [0x73] = some .ld_mHL_E ∧ whole [0x74] = some .ld_mHL_H ∧ whole [0x75] = some .ld_mHL_L ∧
      whole [0x76] = some .halt ∧ whole [0x77] = some .ld_mHL_A ∧ whole [0x78] = some .ld_A_B ∧
      whole [0x79] = some .ld_A_C ∧ whole [0x7A] = some .ld_A_D ∧ whole [0x7B] = some .ld_A_E ∧
      whole [0x7C] = some .ld_A_H ∧ whole [0x7D] = some .ld_A_L ∧ whole [0x7E] = some .ld_A_mHL ∧
      whole [0x7F] = some .ld_A_A := by decide

/-- Row 8x of the grid of R135. -/
theorem test_decode_primary_8x :
    whole [0x80] = some .add_A_B ∧ whole [0x81] = some .add_A_C ∧ whole [0x82] = some .add_A_D ∧
      whole [0x83] = some .add_A_E ∧ whole [0x84] = some .add_A_H ∧ whole [0x85] = some .add_A_L ∧
      whole [0x86] = some .add_A_mHL ∧ whole [0x87] = some .add_A_A ∧ whole [0x88] = some .adc_A_B ∧
      whole [0x89] = some .adc_A_C ∧ whole [0x8A] = some .adc_A_D ∧ whole [0x8B] = some .adc_A_E ∧
      whole [0x8C] = some .adc_A_H ∧ whole [0x8D] = some .adc_A_L ∧ whole [0x8E] = some .adc_A_mHL ∧
      whole [0x8F] = some .adc_A_A := by decide

/-- Row 9x of the grid of R135. -/
theorem test_decode_primary_9x :
    whole [0x90] = some .sub_B ∧ whole [0x91] = some .sub_C ∧ whole [0x92] = some .sub_D ∧ whole [0x93] = some .sub_E ∧
      whole [0x94] = some .sub_H ∧ whole [0x95] = some .sub_L ∧ whole [0x96] = some .sub_mHL ∧
      whole [0x97] = some .sub_A ∧ whole [0x98] = some .sbc_A_B ∧ whole [0x99] = some .sbc_A_C ∧
      whole [0x9A] = some .sbc_A_D ∧ whole [0x9B] = some .sbc_A_E ∧ whole [0x9C] = some .sbc_A_H ∧
      whole [0x9D] = some .sbc_A_L ∧ whole [0x9E] = some .sbc_A_mHL ∧ whole [0x9F] = some .sbc_A_A := by decide

/-- Row Ax of the grid of R135. -/
theorem test_decode_primary_Ax :
    whole [0xA0] = some .and_B ∧ whole [0xA1] = some .and_C ∧ whole [0xA2] = some .and_D ∧ whole [0xA3] = some .and_E ∧
      whole [0xA4] = some .and_H ∧ whole [0xA5] = some .and_L ∧ whole [0xA6] = some .and_mHL ∧
      whole [0xA7] = some .and_A ∧ whole [0xA8] = some .xor_B ∧ whole [0xA9] = some .xor_C ∧ whole [0xAA] = some .xor_D ∧
      whole [0xAB] = some .xor_E ∧ whole [0xAC] = some .xor_H ∧ whole [0xAD] = some .xor_L ∧
      whole [0xAE] = some .xor_mHL ∧ whole [0xAF] = some .xor_A := by decide

/-- Row Bx of the grid of R135. -/
theorem test_decode_primary_Bx :
    whole [0xB0] = some .or_B ∧ whole [0xB1] = some .or_C ∧ whole [0xB2] = some .or_D ∧ whole [0xB3] = some .or_E ∧
      whole [0xB4] = some .or_H ∧ whole [0xB5] = some .or_L ∧ whole [0xB6] = some .or_mHL ∧ whole [0xB7] = some .or_A ∧
      whole [0xB8] = some .cp_B ∧ whole [0xB9] = some .cp_C ∧ whole [0xBA] = some .cp_D ∧ whole [0xBB] = some .cp_E ∧
      whole [0xBC] = some .cp_H ∧ whole [0xBD] = some .cp_L ∧ whole [0xBE] = some .cp_mHL ∧ whole [0xBF] = some .cp_A := by decide

/-- Row Cx of the grid of R135. -/
theorem test_decode_primary_Cx :
    whole [0xC0] = some .ret_NZ ∧ whole [0xC1] = some .pop_BC ∧ whole [0xC2, 0x34, 0x12] = some (.jp_NZ_a16 0x1234) ∧
      whole [0xC3, 0x34, 0x12] = some (.jp_a16 0x1234) ∧ whole [0xC4, 0x34, 0x12] = some (.call_NZ_a16 0x1234) ∧
      whole [0xC5] = some .push_BC ∧ whole [0xC6, 0x34] = some (.add_A_d8 0x34) ∧ whole [0xC7] = some .rst_00h ∧
      whole [0xC8] = some .ret_Z ∧ whole [0xC9] = some .ret ∧ whole [0xCA, 0x34, 0x12] = some (.jp_Z_a16 0x1234) ∧
      whole [0xCB, 0x11] = some .rl_C ∧ whole [0xCC, 0x34, 0x12] = some (.call_Z_a16 0x1234) ∧
      whole [0xCD, 0x34, 0x12] = some (.call_a16 0x1234) ∧ whole [0xCE, 0x34] = some (.adc_A_d8 0x34) ∧
      whole [0xCF] = some .rst_08h := by decide

/-- Row Dx of the grid of R135. -/
theorem test_decode_primary_Dx :
    whole [0xD0] = some .ret_NC ∧ whole [0xD1] = some .pop_DE ∧ whole [0xD2, 0x34, 0x12] = some (.jp_NC_a16 0x1234) ∧
      whole [0xD3] = some (.illegal 0xD3) ∧ whole [0xD4, 0x34, 0x12] = some (.call_NC_a16 0x1234) ∧
      whole [0xD5] = some .push_DE ∧ whole [0xD6, 0x34] = some (.sub_d8 0x34) ∧ whole [0xD7] = some .rst_10h ∧
      whole [0xD8] = some .ret_C ∧ whole [0xD9] = some .reti ∧ whole [0xDA, 0x34, 0x12] = some (.jp_C_a16 0x1234) ∧
      whole [0xDB] = some (.illegal 0xDB) ∧ whole [0xDC, 0x34, 0x12] = some (.call_C_a16 0x1234) ∧
      whole [0xDD] = some (.illegal 0xDD) ∧ whole [0xDE, 0x34] = some (.sbc_A_d8 0x34) ∧ whole [0xDF] = some .rst_18h := by decide

/-- Row Ex of the grid of R135. -/
theorem test_decode_primary_Ex :
    whole [0xE0, 0x34] = some (.ldh_ma8_A 0x34) ∧ whole [0xE1] = some .pop_HL ∧ whole [0xE2] = some .ldh_mC_A ∧
      whole [0xE3] = some (.illegal 0xE3) ∧ whole [0xE4] = some (.illegal 0xE4) ∧ whole [0xE5] = some .push_HL ∧
      whole [0xE6, 0x34] = some (.and_d8 0x34) ∧ whole [0xE7] = some .rst_20h ∧
      whole [0xE8, 0x34] = some (.add_SP_e8 0x34) ∧ whole [0xE9] = some .jp_HL ∧
      whole [0xEA, 0x34, 0x12] = some (.ld_ma16_A 0x1234) ∧ whole [0xEB] = some (.illegal 0xEB) ∧
      whole [0xEC] = some (.illegal 0xEC) ∧ whole [0xED] = some (.illegal 0xED) ∧
      whole [0xEE, 0x34] = some (.xor_d8 0x34) ∧ whole [0xEF] = some .rst_28h := by decide

/-- Row Fx of the grid of R135. -/
theorem test_decode_primary_Fx :
    whole [0xF0, 0x34] = some (.ldh_A_ma8 0x34) ∧ whole [0xF1] = some .pop_AF ∧ whole [0xF2] = some .ldh_A_mC ∧
      whole [0xF3] = some .di ∧ whole [0xF4] = some (.illegal 0xF4) ∧ whole [0xF5] = some .push_AF ∧
      whole [0xF6, 0x34] = some (.or_d8 0x34) ∧ whole [0xF7] = some .rst_30h ∧
      whole [0xF8, 0x34] = some (.ld_HL_SPe8 0x34) ∧ whole [0xF9] = some .ld_SP_HL ∧
      whole [0xFA, 0x34, 0x12] = some (.ld_A_ma16 0x1234) ∧ whole [0xFB] = some .ei ∧
      whole [0xFC] = some (.illegal 0xFC) ∧ whole [0xFD] = some (.illegal 0xFD) ∧
      whole [0xFE, 0x34] = some (.cp_d8 0x34) ∧ whole [0xFF] = some .rst_38h := by decide

/-- Row 0x of the grid of R136. -/
theorem test_decode_cb_0x :
    whole [0xCB, 0x00] = some .rlc_B ∧ whole [0xCB, 0x01] = some .rlc_C ∧ whole [0xCB, 0x02] = some .rlc_D ∧
      whole [0xCB, 0x03] = some .rlc_E ∧ whole [0xCB, 0x04] = some .rlc_H ∧ whole [0xCB, 0x05] = some .rlc_L ∧
      whole [0xCB, 0x06] = some .rlc_mHL ∧ whole [0xCB, 0x07] = some .rlc_A ∧ whole [0xCB, 0x08] = some .rrc_B ∧
      whole [0xCB, 0x09] = some .rrc_C ∧ whole [0xCB, 0x0A] = some .rrc_D ∧ whole [0xCB, 0x0B] = some .rrc_E ∧
      whole [0xCB, 0x0C] = some .rrc_H ∧ whole [0xCB, 0x0D] = some .rrc_L ∧ whole [0xCB, 0x0E] = some .rrc_mHL ∧
      whole [0xCB, 0x0F] = some .rrc_A := by decide

/-- Row 1x of the grid of R136. -/
theorem test_decode_cb_1x :
    whole [0xCB, 0x10] = some .rl_B ∧ whole [0xCB, 0x11] = some .rl_C ∧ whole [0xCB, 0x12] = some .rl_D ∧
      whole [0xCB, 0x13] = some .rl_E ∧ whole [0xCB, 0x14] = some .rl_H ∧ whole [0xCB, 0x15] = some .rl_L ∧
      whole [0xCB, 0x16] = some .rl_mHL ∧ whole [0xCB, 0x17] = some .rl_A ∧ whole [0xCB, 0x18] = some .rr_B ∧
      whole [0xCB, 0x19] = some .rr_C ∧ whole [0xCB, 0x1A] = some .rr_D ∧ whole [0xCB, 0x1B] = some .rr_E ∧
      whole [0xCB, 0x1C] = some .rr_H ∧ whole [0xCB, 0x1D] = some .rr_L ∧ whole [0xCB, 0x1E] = some .rr_mHL ∧
      whole [0xCB, 0x1F] = some .rr_A := by decide

/-- Row 2x of the grid of R136. -/
theorem test_decode_cb_2x :
    whole [0xCB, 0x20] = some .sla_B ∧ whole [0xCB, 0x21] = some .sla_C ∧ whole [0xCB, 0x22] = some .sla_D ∧
      whole [0xCB, 0x23] = some .sla_E ∧ whole [0xCB, 0x24] = some .sla_H ∧ whole [0xCB, 0x25] = some .sla_L ∧
      whole [0xCB, 0x26] = some .sla_mHL ∧ whole [0xCB, 0x27] = some .sla_A ∧ whole [0xCB, 0x28] = some .sra_B ∧
      whole [0xCB, 0x29] = some .sra_C ∧ whole [0xCB, 0x2A] = some .sra_D ∧ whole [0xCB, 0x2B] = some .sra_E ∧
      whole [0xCB, 0x2C] = some .sra_H ∧ whole [0xCB, 0x2D] = some .sra_L ∧ whole [0xCB, 0x2E] = some .sra_mHL ∧
      whole [0xCB, 0x2F] = some .sra_A := by decide

/-- Row 3x of the grid of R136. -/
theorem test_decode_cb_3x :
    whole [0xCB, 0x30] = some .swap_B ∧ whole [0xCB, 0x31] = some .swap_C ∧ whole [0xCB, 0x32] = some .swap_D ∧
      whole [0xCB, 0x33] = some .swap_E ∧ whole [0xCB, 0x34] = some .swap_H ∧ whole [0xCB, 0x35] = some .swap_L ∧
      whole [0xCB, 0x36] = some .swap_mHL ∧ whole [0xCB, 0x37] = some .swap_A ∧ whole [0xCB, 0x38] = some .srl_B ∧
      whole [0xCB, 0x39] = some .srl_C ∧ whole [0xCB, 0x3A] = some .srl_D ∧ whole [0xCB, 0x3B] = some .srl_E ∧
      whole [0xCB, 0x3C] = some .srl_H ∧ whole [0xCB, 0x3D] = some .srl_L ∧ whole [0xCB, 0x3E] = some .srl_mHL ∧
      whole [0xCB, 0x3F] = some .srl_A := by decide

/-- Row 4x of the grid of R136. -/
theorem test_decode_cb_4x :
    whole [0xCB, 0x40] = some .bit_0_B ∧ whole [0xCB, 0x41] = some .bit_0_C ∧ whole [0xCB, 0x42] = some .bit_0_D ∧
      whole [0xCB, 0x43] = some .bit_0_E ∧ whole [0xCB, 0x44] = some .bit_0_H ∧ whole [0xCB, 0x45] = some .bit_0_L ∧
      whole [0xCB, 0x46] = some .bit_0_mHL ∧ whole [0xCB, 0x47] = some .bit_0_A ∧ whole [0xCB, 0x48] = some .bit_1_B ∧
      whole [0xCB, 0x49] = some .bit_1_C ∧ whole [0xCB, 0x4A] = some .bit_1_D ∧ whole [0xCB, 0x4B] = some .bit_1_E ∧
      whole [0xCB, 0x4C] = some .bit_1_H ∧ whole [0xCB, 0x4D] = some .bit_1_L ∧ whole [0xCB, 0x4E] = some .bit_1_mHL ∧
      whole [0xCB, 0x4F] = some .bit_1_A := by decide

/-- Row 5x of the grid of R136. -/
theorem test_decode_cb_5x :
    whole [0xCB, 0x50] = some .bit_2_B ∧ whole [0xCB, 0x51] = some .bit_2_C ∧ whole [0xCB, 0x52] = some .bit_2_D ∧
      whole [0xCB, 0x53] = some .bit_2_E ∧ whole [0xCB, 0x54] = some .bit_2_H ∧ whole [0xCB, 0x55] = some .bit_2_L ∧
      whole [0xCB, 0x56] = some .bit_2_mHL ∧ whole [0xCB, 0x57] = some .bit_2_A ∧ whole [0xCB, 0x58] = some .bit_3_B ∧
      whole [0xCB, 0x59] = some .bit_3_C ∧ whole [0xCB, 0x5A] = some .bit_3_D ∧ whole [0xCB, 0x5B] = some .bit_3_E ∧
      whole [0xCB, 0x5C] = some .bit_3_H ∧ whole [0xCB, 0x5D] = some .bit_3_L ∧ whole [0xCB, 0x5E] = some .bit_3_mHL ∧
      whole [0xCB, 0x5F] = some .bit_3_A := by decide

/-- Row 6x of the grid of R136. -/
theorem test_decode_cb_6x :
    whole [0xCB, 0x60] = some .bit_4_B ∧ whole [0xCB, 0x61] = some .bit_4_C ∧ whole [0xCB, 0x62] = some .bit_4_D ∧
      whole [0xCB, 0x63] = some .bit_4_E ∧ whole [0xCB, 0x64] = some .bit_4_H ∧ whole [0xCB, 0x65] = some .bit_4_L ∧
      whole [0xCB, 0x66] = some .bit_4_mHL ∧ whole [0xCB, 0x67] = some .bit_4_A ∧ whole [0xCB, 0x68] = some .bit_5_B ∧
      whole [0xCB, 0x69] = some .bit_5_C ∧ whole [0xCB, 0x6A] = some .bit_5_D ∧ whole [0xCB, 0x6B] = some .bit_5_E ∧
      whole [0xCB, 0x6C] = some .bit_5_H ∧ whole [0xCB, 0x6D] = some .bit_5_L ∧ whole [0xCB, 0x6E] = some .bit_5_mHL ∧
      whole [0xCB, 0x6F] = some .bit_5_A := by decide

/-- Row 7x of the grid of R136. -/
theorem test_decode_cb_7x :
    whole [0xCB, 0x70] = some .bit_6_B ∧ whole [0xCB, 0x71] = some .bit_6_C ∧ whole [0xCB, 0x72] = some .bit_6_D ∧
      whole [0xCB, 0x73] = some .bit_6_E ∧ whole [0xCB, 0x74] = some .bit_6_H ∧ whole [0xCB, 0x75] = some .bit_6_L ∧
      whole [0xCB, 0x76] = some .bit_6_mHL ∧ whole [0xCB, 0x77] = some .bit_6_A ∧ whole [0xCB, 0x78] = some .bit_7_B ∧
      whole [0xCB, 0x79] = some .bit_7_C ∧ whole [0xCB, 0x7A] = some .bit_7_D ∧ whole [0xCB, 0x7B] = some .bit_7_E ∧
      whole [0xCB, 0x7C] = some .bit_7_H ∧ whole [0xCB, 0x7D] = some .bit_7_L ∧ whole [0xCB, 0x7E] = some .bit_7_mHL ∧
      whole [0xCB, 0x7F] = some .bit_7_A := by decide

/-- Row 8x of the grid of R136. -/
theorem test_decode_cb_8x :
    whole [0xCB, 0x80] = some .res_0_B ∧ whole [0xCB, 0x81] = some .res_0_C ∧ whole [0xCB, 0x82] = some .res_0_D ∧
      whole [0xCB, 0x83] = some .res_0_E ∧ whole [0xCB, 0x84] = some .res_0_H ∧ whole [0xCB, 0x85] = some .res_0_L ∧
      whole [0xCB, 0x86] = some .res_0_mHL ∧ whole [0xCB, 0x87] = some .res_0_A ∧ whole [0xCB, 0x88] = some .res_1_B ∧
      whole [0xCB, 0x89] = some .res_1_C ∧ whole [0xCB, 0x8A] = some .res_1_D ∧ whole [0xCB, 0x8B] = some .res_1_E ∧
      whole [0xCB, 0x8C] = some .res_1_H ∧ whole [0xCB, 0x8D] = some .res_1_L ∧ whole [0xCB, 0x8E] = some .res_1_mHL ∧
      whole [0xCB, 0x8F] = some .res_1_A := by decide

/-- Row 9x of the grid of R136. -/
theorem test_decode_cb_9x :
    whole [0xCB, 0x90] = some .res_2_B ∧ whole [0xCB, 0x91] = some .res_2_C ∧ whole [0xCB, 0x92] = some .res_2_D ∧
      whole [0xCB, 0x93] = some .res_2_E ∧ whole [0xCB, 0x94] = some .res_2_H ∧ whole [0xCB, 0x95] = some .res_2_L ∧
      whole [0xCB, 0x96] = some .res_2_mHL ∧ whole [0xCB, 0x97] = some .res_2_A ∧ whole [0xCB, 0x98] = some .res_3_B ∧
      whole [0xCB, 0x99] = some .res_3_C ∧ whole [0xCB, 0x9A] = some .res_3_D ∧ whole [0xCB, 0x9B] = some .res_3_E ∧
      whole [0xCB, 0x9C] = some .res_3_H ∧ whole [0xCB, 0x9D] = some .res_3_L ∧ whole [0xCB, 0x9E] = some .res_3_mHL ∧
      whole [0xCB, 0x9F] = some .res_3_A := by decide

/-- Row Ax of the grid of R136. -/
theorem test_decode_cb_Ax :
    whole [0xCB, 0xA0] = some .res_4_B ∧ whole [0xCB, 0xA1] = some .res_4_C ∧ whole [0xCB, 0xA2] = some .res_4_D ∧
      whole [0xCB, 0xA3] = some .res_4_E ∧ whole [0xCB, 0xA4] = some .res_4_H ∧ whole [0xCB, 0xA5] = some .res_4_L ∧
      whole [0xCB, 0xA6] = some .res_4_mHL ∧ whole [0xCB, 0xA7] = some .res_4_A ∧ whole [0xCB, 0xA8] = some .res_5_B ∧
      whole [0xCB, 0xA9] = some .res_5_C ∧ whole [0xCB, 0xAA] = some .res_5_D ∧ whole [0xCB, 0xAB] = some .res_5_E ∧
      whole [0xCB, 0xAC] = some .res_5_H ∧ whole [0xCB, 0xAD] = some .res_5_L ∧ whole [0xCB, 0xAE] = some .res_5_mHL ∧
      whole [0xCB, 0xAF] = some .res_5_A := by decide

/-- Row Bx of the grid of R136. -/
theorem test_decode_cb_Bx :
    whole [0xCB, 0xB0] = some .res_6_B ∧ whole [0xCB, 0xB1] = some .res_6_C ∧ whole [0xCB, 0xB2] = some .res_6_D ∧
      whole [0xCB, 0xB3] = some .res_6_E ∧ whole [0xCB, 0xB4] = some .res_6_H ∧ whole [0xCB, 0xB5] = some .res_6_L ∧
      whole [0xCB, 0xB6] = some .res_6_mHL ∧ whole [0xCB, 0xB7] = some .res_6_A ∧ whole [0xCB, 0xB8] = some .res_7_B ∧
      whole [0xCB, 0xB9] = some .res_7_C ∧ whole [0xCB, 0xBA] = some .res_7_D ∧ whole [0xCB, 0xBB] = some .res_7_E ∧
      whole [0xCB, 0xBC] = some .res_7_H ∧ whole [0xCB, 0xBD] = some .res_7_L ∧ whole [0xCB, 0xBE] = some .res_7_mHL ∧
      whole [0xCB, 0xBF] = some .res_7_A := by decide

/-- Row Cx of the grid of R136. -/
theorem test_decode_cb_Cx :
    whole [0xCB, 0xC0] = some .set_0_B ∧ whole [0xCB, 0xC1] = some .set_0_C ∧ whole [0xCB, 0xC2] = some .set_0_D ∧
      whole [0xCB, 0xC3] = some .set_0_E ∧ whole [0xCB, 0xC4] = some .set_0_H ∧ whole [0xCB, 0xC5] = some .set_0_L ∧
      whole [0xCB, 0xC6] = some .set_0_mHL ∧ whole [0xCB, 0xC7] = some .set_0_A ∧ whole [0xCB, 0xC8] = some .set_1_B ∧
      whole [0xCB, 0xC9] = some .set_1_C ∧ whole [0xCB, 0xCA] = some .set_1_D ∧ whole [0xCB, 0xCB] = some .set_1_E ∧
      whole [0xCB, 0xCC] = some .set_1_H ∧ whole [0xCB, 0xCD] = some .set_1_L ∧ whole [0xCB, 0xCE] = some .set_1_mHL ∧
      whole [0xCB, 0xCF] = some .set_1_A := by decide

/-- Row Dx of the grid of R136. -/
theorem test_decode_cb_Dx :
    whole [0xCB, 0xD0] = some .set_2_B ∧ whole [0xCB, 0xD1] = some .set_2_C ∧ whole [0xCB, 0xD2] = some .set_2_D ∧
      whole [0xCB, 0xD3] = some .set_2_E ∧ whole [0xCB, 0xD4] = some .set_2_H ∧ whole [0xCB, 0xD5] = some .set_2_L ∧
      whole [0xCB, 0xD6] = some .set_2_mHL ∧ whole [0xCB, 0xD7] = some .set_2_A ∧ whole [0xCB, 0xD8] = some .set_3_B ∧
      whole [0xCB, 0xD9] = some .set_3_C ∧ whole [0xCB, 0xDA] = some .set_3_D ∧ whole [0xCB, 0xDB] = some .set_3_E ∧
      whole [0xCB, 0xDC] = some .set_3_H ∧ whole [0xCB, 0xDD] = some .set_3_L ∧ whole [0xCB, 0xDE] = some .set_3_mHL ∧
      whole [0xCB, 0xDF] = some .set_3_A := by decide

/-- Row Ex of the grid of R136. -/
theorem test_decode_cb_Ex :
    whole [0xCB, 0xE0] = some .set_4_B ∧ whole [0xCB, 0xE1] = some .set_4_C ∧ whole [0xCB, 0xE2] = some .set_4_D ∧
      whole [0xCB, 0xE3] = some .set_4_E ∧ whole [0xCB, 0xE4] = some .set_4_H ∧ whole [0xCB, 0xE5] = some .set_4_L ∧
      whole [0xCB, 0xE6] = some .set_4_mHL ∧ whole [0xCB, 0xE7] = some .set_4_A ∧ whole [0xCB, 0xE8] = some .set_5_B ∧
      whole [0xCB, 0xE9] = some .set_5_C ∧ whole [0xCB, 0xEA] = some .set_5_D ∧ whole [0xCB, 0xEB] = some .set_5_E ∧
      whole [0xCB, 0xEC] = some .set_5_H ∧ whole [0xCB, 0xED] = some .set_5_L ∧ whole [0xCB, 0xEE] = some .set_5_mHL ∧
      whole [0xCB, 0xEF] = some .set_5_A := by decide

/-- Row Fx of the grid of R136. -/
theorem test_decode_cb_Fx :
    whole [0xCB, 0xF0] = some .set_6_B ∧ whole [0xCB, 0xF1] = some .set_6_C ∧ whole [0xCB, 0xF2] = some .set_6_D ∧
      whole [0xCB, 0xF3] = some .set_6_E ∧ whole [0xCB, 0xF4] = some .set_6_H ∧ whole [0xCB, 0xF5] = some .set_6_L ∧
      whole [0xCB, 0xF6] = some .set_6_mHL ∧ whole [0xCB, 0xF7] = some .set_6_A ∧ whole [0xCB, 0xF8] = some .set_7_B ∧
      whole [0xCB, 0xF9] = some .set_7_C ∧ whole [0xCB, 0xFA] = some .set_7_D ∧ whole [0xCB, 0xFB] = some .set_7_E ∧
      whole [0xCB, 0xFC] = some .set_7_H ∧ whole [0xCB, 0xFD] = some .set_7_L ∧ whole [0xCB, 0xFE] = some .set_7_mHL ∧
      whole [0xCB, 0xFF] = some .set_7_A := by decide

/-! ## One step for each rule -/

/-- 95_test_vectors.md V1 (R207). -/
theorem test_V1 :
    (after [] [0x80] { State.reset with a := 0x3A, b := 0xC6 }).map (fun t => (t.a, t.pc, t.f)) =
      some (0x00, 0x0101, 0xB0) := by decide

/-- 95_test_vectors.md V4 (R208). -/
theorem test_V4 :
    (after [(0xC000, 0xF0)] [0x86] { State.reset with a := 0x12, h := 0xC0, l := 0x00 }).map (fun t => (t.a, t.pc, t.f)) =
      some (0x02, 0x0101, 0x10) := by decide

/-- 95_test_vectors.md V5 (R209). -/
theorem test_V5 :
    (after [] [0xC6, 0xFF] { State.reset with a := 0x3C }).map (fun t => (t.a, t.pc, t.f)) =
      some (0x3B, 0x0102, 0x30) := by decide

/-- 95_test_vectors.md V6 (R210). -/
theorem test_V6 :
    (after [] [0x89] { State.reset with a := 0xFF, c := 0x00, f := 0x10 }).map (fun t => (t.a, t.pc, t.f)) =
      some (0x00, 0x0101, 0xB0) := by decide

/-- 95_test_vectors.md V7 (R211). -/
theorem test_V7 :
    (after [(0xC000, 0x1E)] [0x8E] { State.reset with a := 0xE1, h := 0xC0, l := 0x00, f := 0x10 }).map (fun t => (t.a, t.pc, t.f)) =
      some (0x00, 0x0101, 0xB0) := by decide

/-- 95_test_vectors.md V8 (R212). -/
theorem test_V8 :
    (after [] [0xCE, 0x0F] { State.reset with a := 0xE1, f := 0x10 }).map (fun t => (t.a, t.pc, t.f)) =
      some (0xF1, 0x0102, 0x20) := by decide

/-- 95_test_vectors.md V10 (R213). -/
theorem test_V10 :
    (after [] [0x93] { State.reset with a := 0x3E, e := 0x3E }).map (fun t => (t.a, t.pc, t.f)) =
      some (0x00, 0x0101, 0xC0) := by decide

/-- 95_test_vectors.md V12 (R214). -/
theorem test_V12 :
    (after [(0xC000, 0x40)] [0x96] { State.reset with a := 0x3E, h := 0xC0, l := 0x00 }).map (fun t => (t.a, t.pc, t.f)) =
      some (0xFE, 0x0101, 0x50) := by decide

/-- 95_test_vectors.md V13 (R215). -/
theorem test_V13 :
    (after [] [0xD6, 0x0F] { State.reset with a := 0x3E }).map (fun t => (t.a, t.pc, t.f)) =
      some (0x2F, 0x0102, 0x60) := by decide

/-- 95_test_vectors.md V14 (R216). -/
theorem test_V14 :
    (after [] [0x9C] { State.reset with a := 0x3B, h := 0x2A, f := 0x10 }).map (fun t => (t.a, t.pc, t.f)) =
      some (0x10, 0x0101, 0x40) := by decide

/-- 95_test_vectors.md V16 (R217). -/
theorem test_V16 :
    (after [(0xC000, 0x4F)] [0x9E] { State.reset with a := 0x3B, h := 0xC0, l := 0x00, f := 0x10 }).map (fun t => (t.a, t.pc, t.f)) =
      some (0xEB, 0x0101, 0x70) := by decide

/-- 95_test_vectors.md V17 (R218). -/
theorem test_V17 :
    (after [] [0xDE, 0x00] { State.reset with a := 0x00, f := 0x10 }).map (fun t => (t.a, t.pc, t.f)) =
      some (0xFF, 0x0102, 0x70) := by decide

/-- 95_test_vectors.md V18 (R219). -/
theorem test_V18 :
    (after [] [0xA2] { State.reset with a := 0x5A, d := 0x3F }).map (fun t => (t.a, t.pc, t.f)) =
      some (0x1A, 0x0101, 0x20) := by decide

/-- 95_test_vectors.md V19 (R220). -/
theorem test_V19 :
    (after [(0xC000, 0xA5)] [0xA6] { State.reset with a := 0x5A, h := 0xC0, l := 0x00 }).map (fun t => (t.a, t.pc, t.f)) =
      some (0x00, 0x0101, 0xA0) := by decide

/-- 95_test_vectors.md V20 (R221). -/
theorem test_V20 :
    (after [] [0xE6, 0x38] { State.reset with a := 0x5A, f := 0x10 }).map (fun t => (t.a, t.pc, t.f)) =
      some (0x18, 0x0102, 0x20) := by decide

/-- 95_test_vectors.md V21 (R222). -/
theorem test_V21 :
    (after [] [0xAF] { State.reset with a := 0x5A, f := 0xF0 }).map (fun t => (t.a, t.pc, t.f)) =
      some (0x00, 0x0101, 0x80) := by decide

/-- 95_test_vectors.md V22 (R223). -/
theorem test_V22 :
    (after [(0xC000, 0x0F)] [0xAE] { State.reset with a := 0xFF, h := 0xC0, l := 0x00 }).map (fun t => (t.a, t.pc, t.f)) =
      some (0xF0, 0x0101, 0x00) := by decide

/-- 95_test_vectors.md V23 (R224). -/
theorem test_V23 :
    (after [] [0xEE, 0xFF] { State.reset with a := 0x0F }).map (fun t => (t.a, t.pc, t.f)) =
      some (0xF0, 0x0102, 0x00) := by decide

/-- 95_test_vectors.md V24 (R225). -/
theorem test_V24 :
    (after [] [0xB1] { State.reset with a := 0x5A, c := 0x03 }).map (fun t => (t.a, t.pc, t.f)) =
      some (0x5B, 0x0101, 0x00) := by decide

/-- 95_test_vectors.md V25 (R226). -/
theorem test_V25 :
    (after [(0xC000, 0x00)] [0xB6] { State.reset with a := 0x00, h := 0xC0, l := 0x00, f := 0x30 }).map (fun t => (t.pc, t.f)) =
      some (0x0101, 0x80) := by decide

/-- 95_test_vectors.md V26 (R227). -/
theorem test_V26 :
    (after [] [0xF6, 0x80] { State.reset with a := 0x01 }).map (fun t => (t.a, t.pc, t.f)) =
      some (0x81, 0x0102, 0x00) := by decide

/-- 95_test_vectors.md V27 (R228). -/
theorem test_V27 :
    (after [] [0xB8] { State.reset with a := 0x3C, b := 0x2F }).map (fun t => (t.pc, t.f)) =
      some (0x0101, 0x60) := by decide

/-- 95_test_vectors.md V29 (R229). -/
theorem test_V29 :
    (after [(0xC000, 0x40)] [0xBE] { State.reset with a := 0x3C, h := 0xC0, l := 0x00 }).map (fun t => (t.pc, t.f)) =
      some (0x0101, 0x50) := by decide

/-- 95_test_vectors.md V30 (R230). -/
theorem test_V30 :
    (after [] [0xFE, 0x3C] { State.reset with a := 0x3C }).map (fun t => (t.pc, t.f)) =
      some (0x0102, 0xC0) := by decide

/-- 95_test_vectors.md V31 (R233). -/
theorem test_V31 :
    (after [] [0x3C] { State.reset with a := 0xFF, f := 0x10 }).map (fun t => (t.a, t.pc, t.f)) =
      some (0x00, 0x0101, 0xB0) := by decide

/-- 95_test_vectors.md V33 (R234). -/
theorem test_V33 :
    (after [(0xC000, 0xFF)] [0x34] { State.reset with h := 0xC0, l := 0x00 }).map (fun t => (t.pc, t.f, t.readByte 0xC000)) =
      some (0x0101, 0xA0, 0x00) := by decide

/-- 95_test_vectors.md V34 (R235). -/
theorem test_V34 :
    (after [] [0x2D] { State.reset with l := 0x01 }).map (fun t => (t.l, t.pc, t.f)) =
      some (0x00, 0x0101, 0xC0) := by decide

/-- 95_test_vectors.md V36 (R236). -/
theorem test_V36 :
    (after [(0xC000, 0x00)] [0x35] { State.reset with h := 0xC0, l := 0x00 }).map (fun t => (t.pc, t.f, t.readByte 0xC000)) =
      some (0x0101, 0x60, 0xFF) := by decide

/-- 95_test_vectors.md V37 (R237). -/
theorem test_V37 :
    (after [] [0x27] { State.reset with a := 0x7D, f := 0x00 }).map (fun t => (t.a, t.pc, t.f)) =
      some (0x83, 0x0101, 0x00) := by decide

/-- 95_test_vectors.md V38 (R237). -/
theorem test_V38 :
    (after [] [0x27] { State.reset with a := 0x9A, f := 0x00 }).map (fun t => (t.a, t.pc, t.f)) =
      some (0x00, 0x0101, 0x90) := by decide

/-- 95_test_vectors.md V43 (R238). -/
theorem test_V43 :
    (after [] [0x2F] { State.reset with a := 0x35, f := 0x90 }).map (fun t => (t.a, t.pc, t.f)) =
      some (0xCA, 0x0101, 0xF0) := by decide

/-- 95_test_vectors.md V44 (R239). -/
theorem test_V44 :
    (after [] [0x37] { State.reset with f := 0xE0 }).map (fun t => (t.pc, t.f)) =
      some (0x0101, 0x90) := by decide

/-- 95_test_vectors.md V45 (R240). -/
theorem test_V45 :
    (after [] [0x3F] { State.reset with f := 0x70 }).map (fun t => (t.pc, t.f)) =
      some (0x0101, 0x00) := by decide

/-- 95_test_vectors.md V47 (R261). -/
theorem test_V47 :
    (after [] [0x09] { State.reset with h := 0x8A, l := 0x23, b := 0x06, c := 0x05, f := 0x80 }).map (fun t => (t.h, t.l, t.pc, t.f)) =
      some (0x90, 0x28, 0x0101, 0xA0) := by decide

/-- 95_test_vectors.md V51 (R262). -/
theorem test_V51 :
    (after [] [0x03] { State.reset with b := 0xFF, c := 0xFF }).map (fun t => (t.b, t.c, t.pc, t.f)) =
      some (0x00, 0x00, 0x0101, 0x00) := by decide

/-- 95_test_vectors.md V55 (R263). -/
theorem test_V55 :
    (after [] [0x0B] { State.reset with b := 0x00, c := 0x00, f := 0xF0 }).map (fun t => (t.b, t.c, t.pc, t.f)) =
      some (0xFF, 0xFF, 0x0101, 0xF0) := by decide

/-- 95_test_vectors.md V59 (R265). -/
theorem test_V59 :
    (after [] [0xE8, 0x01] { State.reset with sp := 0x00FF }).map (fun t => (t.pc, t.sp, t.f)) =
      some (0x0102, 0x0100, 0x30) := by decide

/-- 95_test_vectors.md V63 (R266). -/
theorem test_V63 :
    (after [] [0xF8, 0x02] { State.reset with sp := 0xFFF8, f := 0xF0 }).map (fun t => (t.h, t.l, t.pc, t.f)) =
      some (0xFF, 0xFA, 0x0102, 0x00) := by decide

/-- 95_test_vectors.md V66 (R284). -/
theorem test_V66 :
    (after [] [0x07] { State.reset with a := 0x85 }).map (fun t => (t.a, t.pc, t.f)) =
      some (0x0B, 0x0101, 0x10) := by decide

/-- 95_test_vectors.md V68 (R285). -/
theorem test_V68 :
    (after [] [0x0F] { State.reset with a := 0x3B }).map (fun t => (t.a, t.pc, t.f)) =
      some (0x9D, 0x0101, 0x10) := by decide

/-- 95_test_vectors.md V69 (R286). -/
theorem test_V69 :
    (after [] [0x17] { State.reset with a := 0x95, f := 0x10 }).map (fun t => (t.a, t.pc, t.f)) =
      some (0x2B, 0x0101, 0x10) := by decide

/-- 95_test_vectors.md V70 (R287). -/
theorem test_V70 :
    (after [] [0x1F] { State.reset with a := 0x81 }).map (fun t => (t.a, t.pc, t.f)) =
      some (0x40, 0x0101, 0x10) := by decide

/-- 95_test_vectors.md V72 (R288). -/
theorem test_V72 :
    (after [] [0xCB, 0x00] { State.reset with b := 0x85 }).map (fun t => (t.b, t.pc, t.f)) =
      some (0x0B, 0x0102, 0x10) := by decide

/-- 95_test_vectors.md V74 (R289). -/
theorem test_V74 :
    (after [(0xC000, 0x80)] [0xCB, 0x06] { State.reset with h := 0xC0, l := 0x00 }).map (fun t => (t.pc, t.f, t.readByte 0xC000)) =
      some (0x0102, 0x10, 0x01) := by decide

/-- 95_test_vectors.md V75 (R290). -/
theorem test_V75 :
    (after [] [0xCB, 0x09] { State.reset with c := 0x01 }).map (fun t => (t.c, t.pc, t.f)) =
      some (0x80, 0x0102, 0x10) := by decide

/-- 95_test_vectors.md V76 (R291). -/
theorem test_V76 :
    (after [(0xC000, 0x00)] [0xCB, 0x0E] { State.reset with h := 0xC0, l := 0x00, f := 0x10 }).map (fun t => (t.pc, t.f, t.readByte 0xC000)) =
      some (0x0102, 0x80, 0x00) := by decide

/-- 95_test_vectors.md V77 (R292). -/
theorem test_V77 :
    (after [] [0xCB, 0x15] { State.reset with l := 0x80 }).map (fun t => (t.l, t.pc, t.f)) =
      some (0x00, 0x0102, 0x90) := by decide

/-- 95_test_vectors.md V79 (R293). -/
theorem test_V79 :
    (after [(0xC000, 0x11)] [0xCB, 0x16] { State.reset with h := 0xC0, l := 0x00 }).map (fun t => (t.pc, t.f, t.readByte 0xC000)) =
      some (0x0102, 0x00, 0x22) := by decide

/-- 95_test_vectors.md V80 (R294). -/
theorem test_V80 :
    (after [] [0xCB, 0x1F] { State.reset with a := 0x01 }).map (fun t => (t.a, t.pc, t.f)) =
      some (0x00, 0x0102, 0x90) := by decide

/-- 95_test_vectors.md V82 (R295). -/
theorem test_V82 :
    (after [(0xC000, 0x8A)] [0xCB, 0x1E] { State.reset with h := 0xC0, l := 0x00 }).map (fun t => (t.pc, t.f, t.readByte 0xC000)) =
      some (0x0102, 0x00, 0x45) := by decide

/-- 95_test_vectors.md V83 (R296). -/
theorem test_V83 :
    (after [] [0xCB, 0x22] { State.reset with d := 0x80 }).map (fun t => (t.d, t.pc, t.f)) =
      some (0x00, 0x0102, 0x90) := by decide

/-- 95_test_vectors.md V84 (R297). -/
theorem test_V84 :
    (after [(0xC000, 0xFF)] [0xCB, 0x26] { State.reset with h := 0xC0, l := 0x00 }).map (fun t => (t.pc, t.f, t.readByte 0xC000)) =
      some (0x0102, 0x10, 0xFE) := by decide

/-- 95_test_vectors.md V85 (R298). -/
theorem test_V85 :
    (after [] [0xCB, 0x2F] { State.reset with a := 0x8A }).map (fun t => (t.a, t.pc, t.f)) =
      some (0xC5, 0x0102, 0x00) := by decide

/-- 95_test_vectors.md V86 (R299). -/
theorem test_V86 :
    (after [(0xC000, 0x01)] [0xCB, 0x2E] { State.reset with h := 0xC0, l := 0x00 }).map (fun t => (t.pc, t.f, t.readByte 0xC000)) =
      some (0x0102, 0x90, 0x00) := by decide

/-- 95_test_vectors.md V87 (R300). -/
theorem test_V87 :
    (after [] [0xCB, 0x37] { State.reset with a := 0xF0, f := 0xF0 }).map (fun t => (t.a, t.pc, t.f)) =
      some (0x0F, 0x0102, 0x00) := by decide

/-- 95_test_vectors.md V89 (R301). -/
theorem test_V89 :
    (after [(0xC000, 0xA5)] [0xCB, 0x36] { State.reset with h := 0xC0, l := 0x00 }).map (fun t => (t.pc, t.f, t.readByte 0xC000)) =
      some (0x0102, 0x00, 0x5A) := by decide

/-- 95_test_vectors.md V90 (R302). -/
theorem test_V90 :
    (after [] [0xCB, 0x3F] { State.reset with a := 0x01 }).map (fun t => (t.a, t.pc, t.f)) =
      some (0x00, 0x0102, 0x90) := by decide

/-- 95_test_vectors.md V92 (R303). -/
theorem test_V92 :
    (after [(0xC000, 0x80)] [0xCB, 0x3E] { State.reset with h := 0xC0, l := 0x00 }).map (fun t => (t.pc, t.f, t.readByte 0xC000)) =
      some (0x0102, 0x00, 0x40) := by decide

/-- 95_test_vectors.md V93 (R304). -/
theorem test_V93 :
    (after [] [0xCB, 0x7C] { State.reset with h := 0x80, f := 0x10 }).map (fun t => (t.pc, t.f)) =
      some (0x0102, 0x30) := by decide

/-- 95_test_vectors.md V95 (R305). -/
theorem test_V95 :
    (after [(0xC000, 0xFE)] [0xCB, 0x46] { State.reset with h := 0xC0, l := 0x00, f := 0x50 }).map (fun t => (t.pc, t.f)) =
      some (0x0102, 0xB0) := by decide

/-- 95_test_vectors.md V96 (R306). -/
theorem test_V96 :
    (after [] [0xCB, 0xBF] { State.reset with a := 0x80, f := 0xF0 }).map (fun t => (t.a, t.pc, t.f)) =
      some (0x00, 0x0102, 0xF0) := by decide

/-- 95_test_vectors.md V97 (R307). -/
theorem test_V97 :
    (after [(0xC000, 0xFF)] [0xCB, 0x9E] { State.reset with h := 0xC0, l := 0x00 }).map (fun t => (t.pc, t.f, t.readByte 0xC000)) =
      some (0x0102, 0x00, 0xF7) := by decide

/-- 95_test_vectors.md V98 (R308). -/
theorem test_V98 :
    (after [] [0xCB, 0xDF] { State.reset with a := 0x80 }).map (fun t => (t.a, t.pc, t.f)) =
      some (0x88, 0x0102, 0x00) := by decide

/-- 95_test_vectors.md V100 (R309). -/
theorem test_V100 :
    (after [(0xC000, 0x00)] [0xCB, 0xC6] { State.reset with h := 0xC0, l := 0x00 }).map (fun t => (t.pc, t.f, t.readByte 0xC000)) =
      some (0x0102, 0x00, 0x01) := by decide

/-- 95_test_vectors.md V101 (R330). -/
theorem test_V101 :
    (after [] [0x41] { State.reset with c := 0x5A }).map (fun t => (t.b, t.pc, t.f)) =
      some (0x5A, 0x0101, 0x00) := by decide

/-- 95_test_vectors.md V103 (R331). -/
theorem test_V103 :
    (after [] [0x16, 0x42] State.reset).map (fun t => (t.d, t.pc, t.f)) =
      some (0x42, 0x0102, 0x00) := by decide

/-- 95_test_vectors.md V105 (R332). -/
theorem test_V105 :
    (after [(0xC000, 0x99)] [0x7E] { State.reset with h := 0xC0, l := 0x00 }).map (fun t => (t.a, t.pc, t.f)) =
      some (0x99, 0x0101, 0x00) := by decide

/-- 95_test_vectors.md V107 (R333). -/
theorem test_V107 :
    (after [] [0x70] { State.reset with b := 0xAB, h := 0xC0, l := 0x00 }).map (fun t => (t.pc, t.f, t.readByte 0xC000)) =
      some (0x0101, 0x00, 0xAB) := by decide

/-- 95_test_vectors.md V109 (R334). -/
theorem test_V109 :
    (after [] [0x36, 0x5C] { State.reset with h := 0xFF, l := 0xFF }).map (fun t => (t.pc, t.f, t.readByte 0xFFFF)) =
      some (0x0102, 0x00, 0x5C) := by decide

/-- 95_test_vectors.md V110 (R335). -/
theorem test_V110 :
    (after [(0xC001, 0x3F)] [0x0A] { State.reset with b := 0xC0, c := 0x01 }).map (fun t => (t.a, t.pc, t.f)) =
      some (0x3F, 0x0101, 0x00) := by decide

/-- 95_test_vectors.md V111 (R336). -/
theorem test_V111 :
    (after [(0xC002, 0x4E)] [0x1A] { State.reset with d := 0xC0, e := 0x02 }).map (fun t => (t.a, t.pc, t.f)) =
      some (0x4E, 0x0101, 0x00) := by decide

/-- 95_test_vectors.md V112 (R337). -/
theorem test_V112 :
    (after [] [0x02] { State.reset with a := 0x11, b := 0xC0, c := 0x03 }).map (fun t => (t.pc, t.f, t.readByte 0xC003)) =
      some (0x0101, 0x00, 0x11) := by decide

/-- 95_test_vectors.md V113 (R338). -/
theorem test_V113 :
    (after [] [0x12] { State.reset with a := 0x22, d := 0xC0, e := 0x04 }).map (fun t => (t.pc, t.f, t.readByte 0xC004)) =
      some (0x0101, 0x00, 0x22) := by decide

/-- 95_test_vectors.md V114 (R339). -/
theorem test_V114 :
    (after [(0xC000, 0x77)] [0xFA, 0x00, 0xC0] State.reset).map (fun t => (t.a, t.pc, t.f)) =
      some (0x77, 0x0103, 0x00) := by decide

/-- 95_test_vectors.md V115 (R340). -/
theorem test_V115 :
    (after [] [0xEA, 0xFF, 0xFF] { State.reset with a := 0xAA }).map (fun t => (t.pc, t.f, t.readByte 0xFFFF)) =
      some (0x0103, 0x00, 0xAA) := by decide

/-- 95_test_vectors.md V116 (R341). -/
theorem test_V116 :
    (after [(0xFF10, 0x80)] [0xF2] { State.reset with c := 0x10 }).map (fun t => (t.a, t.pc, t.f)) =
      some (0x80, 0x0101, 0x00) := by decide

/-- 95_test_vectors.md V117 (R342). -/
theorem test_V117 :
    (after [] [0xE2] { State.reset with a := 0x33, c := 0xFF }).map (fun t => (t.pc, t.f, t.readByte 0xFFFF)) =
      some (0x0101, 0x00, 0x33) := by decide

/-- 95_test_vectors.md V118 (R343). -/
theorem test_V118 :
    (after [(0xFF44, 0x90)] [0xF0, 0x44] State.reset).map (fun t => (t.a, t.pc, t.f)) =
      some (0x90, 0x0102, 0x00) := by decide

/-- 95_test_vectors.md V119 (R344). -/
theorem test_V119 :
    (after [] [0xE0, 0x80] { State.reset with a := 0x01 }).map (fun t => (t.pc, t.f, t.readByte 0xFF80)) =
      some (0x0102, 0x00, 0x01) := by decide

/-- 95_test_vectors.md V120 (R345). -/
theorem test_V120 :
    (after [(0xFFFF, 0x5A)] [0x2A] { State.reset with h := 0xFF, l := 0xFF }).map (fun t => (t.a, t.h, t.l, t.pc, t.f)) =
      some (0x5A, 0x00, 0x00, 0x0101, 0x00) := by decide

/-- 95_test_vectors.md V121 (R346). -/
theorem test_V121 :
    (after [(0xC000, 0x09)] [0x3A] { State.reset with h := 0xC0, l := 0x00 }).map (fun t => (t.a, t.h, t.l, t.pc, t.f)) =
      some (0x09, 0xBF, 0xFF, 0x0101, 0x00) := by decide

/-- 95_test_vectors.md V122 (R347). -/
theorem test_V122 :
    (after [] [0x22] { State.reset with a := 0x66, h := 0xC0, l := 0xFF }).map (fun t => (t.h, t.l, t.pc, t.f, t.readByte 0xC0FF)) =
      some (0xC1, 0x00, 0x0101, 0x00, 0x66) := by decide

/-- 95_test_vectors.md V123 (R348). -/
theorem test_V123 :
    (after [] [0x32] { State.reset with a := 0x67, h := 0x00, l := 0x00 }).map (fun t => (t.h, t.l, t.pc, t.f, t.readByte 0x0000)) =
      some (0xFF, 0xFF, 0x0101, 0x00, 0x67) := by decide

/-- 95_test_vectors.md V124 (R349). -/
theorem test_V124 :
    (after [] [0x01, 0x34, 0x12] State.reset).map (fun t => (t.b, t.c, t.pc, t.f)) =
      some (0x12, 0x34, 0x0103, 0x00) := by decide

/-- 95_test_vectors.md V128 (R350). -/
theorem test_V128 :
    (after [] [0x08, 0x00, 0xC0] { State.reset with sp := 0xFFF8 }).map (fun t => (t.pc, t.f, t.readByte 0xC000, t.readByte 0xC001)) =
      some (0x0103, 0x00, 0xF8, 0xFF) := by decide

/-- 95_test_vectors.md V130 (R351). -/
theorem test_V130 :
    (after [] [0xF9] { State.reset with h := 0xC1, l := 0x00 }).map (fun t => (t.pc, t.sp, t.f)) =
      some (0x0101, 0xC100, 0x00) := by decide

/-- 95_test_vectors.md V131 (R352). -/
theorem test_V131 :
    (after [] [0xC5] { State.reset with b := 0x12, c := 0x34 }).map (fun t => (t.pc, t.sp, t.f, t.readByte 0xFFFC, t.readByte 0xFFFD)) =
      some (0x0101, 0xFFFC, 0x00, 0x34, 0x12) := by decide

/-- 95_test_vectors.md V135 (R353). -/
theorem test_V135 :
    (after [(0xC000, 0x34), (0xC001, 0x12)] [0xC1] { State.reset with sp := 0xC000 }).map (fun t => (t.b, t.c, t.pc, t.sp, t.f)) =
      some (0x12, 0x34, 0x0101, 0xC002, 0x00) := by decide

/-- 95_test_vectors.md V138 (R354). -/
theorem test_V138 :
    (after [(0xC000, 0xFF), (0xC001, 0x12)] [0xF1] { State.reset with sp := 0xC000 }).map (fun t => (t.a, t.pc, t.sp, t.f)) =
      some (0x12, 0x0101, 0xC002, 0xF0) := by decide

/-- 95_test_vectors.md V142 (R381). -/
theorem test_V142 :
    (after [] [0xC3, 0x50, 0x01] State.reset).map (fun t => (t.pc, t.f)) =
      some (0x0150, 0x00) := by decide

/-- 95_test_vectors.md V144 (R382). -/
theorem test_V144 :
    (after [] [0xC2, 0x00, 0x02] { State.reset with f := 0x80 }).map (fun t => (t.pc, t.f)) =
      some (0x0103, 0x80) := by decide

/-- 95_test_vectors.md V148 (R383). -/
theorem test_V148 :
    (after [] [0xE9] { State.reset with h := 0xC0, l := 0x00 }).map (fun t => (t.pc, t.f)) =
      some (0xC000, 0x00) := by decide

/-- 95_test_vectors.md V149 (R384). -/
theorem test_V149 :
    (after [] [0x18, 0x05] State.reset).map (fun t => (t.pc, t.f)) =
      some (0x0107, 0x00) := by decide

/-- 95_test_vectors.md V153 (R385). -/
theorem test_V153 :
    (after [] [0x20, 0xFC] { State.reset with pc := 0x0106, f := 0x00 }).map (fun t => (t.pc, t.f)) =
      some (0x0104, 0x00) := by decide

/-- 95_test_vectors.md V157 (R386). -/
theorem test_V157 :
    (after [] [0xCD, 0x00, 0x02] { State.reset with pc := 0x0150 }).map (fun t => (t.pc, t.sp, t.f, t.readByte 0xFFFC, t.readByte 0xFFFD)) =
      some (0x0200, 0xFFFC, 0x00, 0x53, 0x01) := by decide

/-- 95_test_vectors.md V158 (R387). -/
theorem test_V158 :
    (after [] [0xD4, 0x00, 0x02] { State.reset with pc := 0x0150, f := 0x10 }).map (fun t => (t.pc, t.f)) =
      some (0x0153, 0x10) := by decide

/-- 95_test_vectors.md V162 (R388). -/
theorem test_V162 :
    (after [(0xFFFC, 0x53), (0xFFFD, 0x01)] [0xC9] { State.reset with sp := 0xFFFC }).map (fun t => (t.pc, t.sp, t.f)) =
      some (0x0153, 0xFFFE, 0x00) := by decide

/-- 95_test_vectors.md V163 (R389). -/
theorem test_V163 :
    (after [(0xFFFC, 0x53), (0xFFFD, 0x01)] [0xC8] { State.reset with sp := 0xFFFC, f := 0x80 }).map (fun t => (t.pc, t.sp, t.f)) =
      some (0x0153, 0xFFFE, 0x80) := by decide

/-- 95_test_vectors.md V167 (R390). -/
theorem test_V167 :
    (after [(0xFFFC, 0x53), (0xFFFD, 0x01)] [0xD9] { State.reset with sp := 0xFFFC }).map (fun t => (t.pc, t.sp, t.ime, t.f)) =
      some (0x0153, 0xFFFE, true, 0x00) := by decide

/-- 95_test_vectors.md V168 (R391). -/
theorem test_V168 :
    (after [] [0xC7] { State.reset with pc := 0x0200 }).map (fun t => (t.pc, t.sp, t.f, t.readByte 0xFFFC, t.readByte 0xFFFD)) =
      some (0x0000, 0xFFFC, 0x00, 0x01, 0x02) := by decide

/-- 95_test_vectors.md V176 (R410). -/
theorem test_V176 :
    (after [] [0x00] { State.reset with pc := 0x0150 }).map (fun t => (t.pc, t.f)) =
      some (0x0151, 0x00) := by decide

/-- 95_test_vectors.md V178 (R411). -/
theorem test_V178 :
    (after [] [0x76] { State.reset with pc := 0x0200, ime := true }).map (fun t => (t.pc, t.f)) =
      some (0x0201, 0x00) := by decide

/-- 95_test_vectors.md V179 (R412). -/
theorem test_V179 :
    (after [] [0x10, 0x00] { State.reset with pc := 0x0300 }).map (fun t => (t.pc, t.f)) =
      some (0x0302, 0x00) := by decide

/-- 95_test_vectors.md V181 (R413). -/
theorem test_V181 :
    (after [] [0xF3] { State.reset with ime := true }).map (fun t => (t.pc, t.ime, t.f)) =
      some (0x0101, false, 0x00) := by decide

/-- 95_test_vectors.md V182 (R414). -/
theorem test_V182 :
    (after [] [0xFB] State.reset).map (fun t => (t.pc, t.eiPending, t.f)) =
      some (0x0101, true, 0x00) := by decide

/-- 95_test_vectors.md V185 (R415). -/
theorem test_V185 :
    (after [] [0xCB, 0x37] { State.reset with a := 0xF0 }).map (fun t => (t.a, t.pc, t.f)) =
      some (0x0F, 0x0102, 0x00) := by decide

/-- 95_test_vectors.md V186 (R420). -/
theorem test_V186 :
    (after [] [0xD3] { State.reset with pc := 0x0400 }).map (fun t => (t.pc, t.locked, t.illegalOpcode, t.f)) =
      some (0x0401, true, some ⟨0xD3, 0x0400⟩, 0x00) := by decide

/-- 95_test_vectors.md V198 (R510, R511). -/
theorem test_V198 :
    (after [] [0x00] { State.reset with ime := true, irqInput := [0b00101] }).map (fun t => ((t.pc, t.sp, t.ime, t.irqAck), t.f, t.readByte 0xFFFC, t.readByte 0xFFFD)) =
      some ((0x0040, 0xFFFC, false, some 0), 0x00, 0x00, 0x01) := by decide

/-- 95_test_vectors.md V199 (R506, R511). -/
theorem test_V199 :
    (after [] [0x00] { State.reset with ime := true, irqInput := [0b10000] }).map (fun t => ((t.pc, t.sp, t.ime, t.irqAck), t.f, t.readByte 0xFFFC, t.readByte 0xFFFD)) =
      some ((0x0060, 0xFFFC, false, some 4), 0x00, 0x00, 0x01) := by decide

/-- 95_test_vectors.md V200 (R504). -/
theorem test_V200 :
    (after [] [0x00] { State.reset with irqInput := [0b11111] }).map (fun t => (t.pc, t.f)) =
      some (0x0101, 0x00) := by decide

end Sys2Proof.Tests
end

section
/-! Proofs of the statements about the state: the bytes that decode and what the fetch makes of them. -/

namespace Sys2Proof

/-- The two-byte rows, the CB pairs among them (30_encoding.md R120, R123). -/
theorem encode_row_two_or_cb (op b1 : Byte) (h : (formatOf op).length = 2) :
    encode (decodeRow op b1 0) = [op, b1] ∧ (decodeRow op b1 0).wellFormed = true := by
  by_cases hcb : op = 0xCB
  · subst hcb
    exact encode_row_cb b1
  · exact encode_row_two op b1 ⟨h, hcb⟩

/-- The three-byte rows, their immediate written out byte by byte (30_encoding.md R124). -/
theorem encode_row_three_bytes (op b1 b2 : Byte) (h : (formatOf op).length = 3) :
    encode (decodeRow op b1 b2) = [op, b1, b2] ∧ (decodeRow op b1 b2).wellFormed = true := by
  simpa [wordBytes] using encode_row_three op b1 b2 h

/-- Bytes that decode are the encoding of a well-formed instruction, one to three bytes long, and what follows
it (30_encoding.md R123, R137). -/
theorem encode_of_decode {bytes rest : List Byte} {i : Instr} (h : decode bytes = .ok (i, rest)) :
    bytes = encode i ++ rest ∧ i.wellFormed = true ∧ 1 ≤ (encode i).length ∧ (encode i).length ≤ 3 := by
  obtain ⟨op, hlen, rfl, rfl⟩ | ⟨op, b1, hlen, rfl, rfl⟩ | ⟨op, b1, b2, hlen, rfl, rfl⟩ := decode_cases bytes rest i h
  · obtain ⟨henc, hwf⟩ := encode_row_one op hlen
    rw [henc]
    exact ⟨rfl, hwf, by simp, by simp⟩
  · obtain ⟨henc, hwf⟩ := encode_row_two_or_cb op b1 hlen
    rw [henc]
    exact ⟨rfl, hwf, by simp, by simp⟩
  · obtain ⟨henc, hwf⟩ := encode_row_three_bytes op b1 b2 hlen
    rw [henc]
    exact ⟨rfl, hwf, by simp, by simp⟩

theorem wellFormed_of_decode {bytes rest : List Byte} {i : Instr} (h : decode bytes = .ok (i, rest)) : i.wellFormed = true :=
  (encode_of_decode h).2.1

/-- Any three bytes decode (30_encoding.md R137). -/
theorem decode_three (op b1 b2 : Byte) (rest : List Byte) : ∃ i after, decode (op :: b1 :: b2 :: rest) = .ok (i, after) := by
  cases hF : formatOf op <;> simp only [decode, hF] <;> exact ⟨_, _, rfl⟩

end Sys2Proof

namespace Sys2Proof.Machine

open Sys2Proof.Statement

/-- The fetch yields the instruction that the bytes at PC decode to, and leaves PC past its bytes, with their
reads on the port's record (30_encoding.md R122). -/
theorem fetchInstr_of_decode {s : State} {i : Instr} {rest : List Byte} (h : decode (bytesAt s s.pc 3) = .ok (i, rest)) :
    fetchInstr s = (i, { s with pc := s.pc + BitVec.ofNat 16 (encode i).length, bus := s.bus ++ fetchReads s s.pc (encode i).length }) := by
  have hpc : s.pc + 1 + 1 = s.pc + 2 := BitVec.add_assoc s.pc 1 1
  simp only [bytesAt, hpc] at h
  obtain ⟨op, hlen, hb, rfl⟩ | ⟨op, b1, hlen, hb, rfl⟩ | ⟨op, b1, b2, hlen, hb, rfl⟩ := decode_cases _ _ _ h
  · simp only [List.cons.injEq] at hb
    obtain ⟨rfl, -⟩ := hb
    rw [fetchInstr_one s hlen, (encode_row_one _ hlen).1]
    rfl
  · simp only [List.cons.injEq] at hb
    obtain ⟨rfl, rfl, -⟩ := hb
    rw [fetchInstr_two s hlen, (encode_row_two_or_cb _ _ hlen).1]
    rfl
  · simp only [List.cons.injEq] at hb
    obtain ⟨rfl, rfl, rfl, -⟩ := hb
    rw [fetchInstr_three s hlen, (encode_row_three_bytes _ _ _ hlen).1]
    rfl

/-- A step that takes no interrupt executes the instruction at PC in the state `fetched` (60_exceptions.md R510). -/
theorem step_eq_exec_fetched {s : State} {i : Instr} (h : Runs i s) : step s = exec i (fetched i s) := by
  obtain ⟨hl, ha, rest, hdec⟩ := h
  have hstart : decode (bytesAt (promoteEi (beginStep s)) (promoteEi (beginStep s)).pc 3) = .ok (i, rest) := by
    rw [promoteEi_pc, beginStep_pc, bytesAt_congr _ s (by simp)]
    exact hdec
  rw [step_instruction s hl ha, fetchInstr_of_decode hstart, fetchReads_congr (promoteEi (beginStep s)) s (by simp),
    promoteEi_beginStep]
  rfl

/-- The instruction that a running core executes in a step without an interrupt. -/
theorem exists_runs (s : State) (hl : s.locked = false) (ha : acceptedLine s = none) : ∃ i, Runs i s := by
  obtain ⟨i, rest, hdec⟩ := decode_three (s.readByte s.pc) (s.readByte (s.pc + 1)) (s.readByte (s.pc + 1 + 1)) []
  exact ⟨i, hl, ha, rest, hdec⟩

/-- All that a completed step can be: an interrupt entry, or the running of one instruction (60_exceptions.md
R510). -/
theorem step_next_cases {s t : State} (h : step s = .next t) :
    (∃ n, s.locked = false ∧ acceptedLine s = some n ∧ t = enterInterrupt n (beginStep s)) ∨
      ∃ i, Runs i s ∧ exec i (fetched i s) = .next t := by
  cases hl : s.locked
  case true => rw [step_locked s hl] at h; cases h
  case false =>
    cases ha : acceptedLine s with
    | some n =>
      rw [step_interrupt s n hl ha] at h
      exact .inl ⟨n, rfl, rfl, (Host.Outcome.next.inj h).symm⟩
    | none =>
      obtain ⟨i, hi⟩ := exists_runs s hl ha
      exact .inr ⟨i, hi, step_eq_exec_fetched hi ▸ h⟩

end Sys2Proof.Machine
end

section
/-! Proofs of the statements about the state: the classes of instructions that the whole-machine rules name, read off
the instruction's form. -/

namespace Sys2Proof.Machine

/-- A CB-table entry is a rotate, a shift, SWAP, BIT, RES or SET: it writes neither SP, PC, IME nor the lock. -/
theorem cbForm_classes (op2 : Byte) :
    (cbForm op2).writesIme = false ∧ (cbForm op2).writesSp = false ∧ (cbForm op2).writesPc = false ∧
      (cbForm op2).isIllegal = false := by
  unfold cbForm
  generalize xField op2 = x
  match x with
  | 0 | 1 | 2 | 3 => exact ⟨rfl, rfl, rfl, rfl⟩

theorem writesIme_eq_form (i : Instr) : i.writesIme = (formOf i).writesIme := by
  cases i
  case prefix_CB op2 => exact (cbForm_classes op2).1.symm
  all_goals rfl

theorem writesSp_eq_form (i : Instr) : i.writesSp = (formOf i).writesSp := by
  cases i
  case prefix_CB op2 => exact (cbForm_classes op2).2.1.symm
  all_goals rfl

theorem transfersControl_eq_form (i : Instr) : i.transfersControl = (formOf i).writesPc := by
  cases i
  case prefix_CB op2 => exact (cbForm_classes op2).2.2.1.symm
  all_goals rfl

/-- Of the instructions that may write a flag, only the 0xCB row (R415) has entries that do not. -/
theorem writesFlags_of_form {i : Instr} (h : i.writesFlags = false) : (formOf i).writesFlags = false := by
  cases i
  case prefix_CB op2 => cases h
  all_goals exact h

/-- Of the instructions that may store, only the 0xCB row (R415) has entries that do not. -/
theorem stores_of_form {i : Instr} (h : i.storesMemory = false) : (formOf i).stores = false := by
  cases i
  case prefix_CB op2 => cases h
  all_goals exact h

theorem isIllegal_of_form {i : Instr} (h : ∀ op, i ≠ .illegal op) : (formOf i).isIllegal = false := by
  cases i
  case prefix_CB op2 => exact (cbForm_classes op2).2.2.2
  case illegal op => exact absurd rfl (h op)
  all_goals rfl

end Sys2Proof.Machine
end

section
/-! Proofs of the statements about the state: the invariant `State.legal`, kept by every part of a step. -/

namespace Sys2Proof.Machine

open Sys2Proof.Statement

/-- The three parts of the invariant. -/
theorem State.legal_iff (s : State) :
    s.legal = true ↔ s.mem.wf = true ∧ s.f &&& 0x0F#8 = 0 ∧ s.lockLegal = true := by
  simp [State.legal, and_assoc]

/-- The invariant reads memory, F, the lock and its record, and nothing else. -/
theorem State.legal_congr {s t : State} (hm : t.mem = s.mem) (hf : t.f = s.f) (hl : t.locked = s.locked)
    (hr : t.illegalOpcode = s.illegalOpcode) : t.legal = s.legal := by
  simp only [State.legal, State.lockLegal, hm, hf, hl, hr]

theorem State.lockLegal_congr {s t : State} (hl : t.locked = s.locked) (hr : t.illegalOpcode = s.illegalOpcode) :
    t.lockLegal = s.lockLegal := by
  simp only [State.lockLegal, hl, hr]

theorem enterInterrupt_keeps_legal (n : Fin 5) {s : State} (h : s.legal = true) : (enterInterrupt n s).legal = true := by
  obtain ⟨hm, hf, hl⟩ := s.legal_iff.mp h
  exact (State.legal_iff _).mpr ⟨wf_enterInterrupt n s hm, hf, hl⟩

/-- ILLEGAL locks the core and leaves the record of an unassigned opcode (45_system.md R420). -/
theorem raiseIllegal_lockLegal {op : Byte} (h : unassignedOpcodes.contains op = true) (s : State) :
    (raiseIllegal op s).lockLegal = true := by
  simp only [State.lockLegal, raiseIllegal_illegalOpcode, raiseIllegal_locked, h, Bool.and_self]

theorem run_lockLegal {i : Instr} (hi : i.wellFormed = true) {s : State} (h : s.lockLegal = true) :
    ((formOf i).run s).lockLegal = true := by
  by_cases hill : ∃ op, i = .illegal op
  · obtain ⟨op, rfl⟩ := hill
    exact raiseIllegal_lockLegal hi s
  · obtain ⟨hl, hr⟩ := Form.run_lock (formOf i) s (isIllegal_of_form (not_exists.mp hill))
    rw [State.lockLegal_congr hl hr]
    exact h

theorem exec_keeps_legal {i : Instr} (hi : i.wellFormed = true) {s t : State} (h : s.legal = true)
    (hx : exec i s = .next t) : t.legal = true := by
  obtain ⟨hm, hf, hl⟩ := s.legal_iff.mp h
  rw [(exec_next_iff i s t).mp hx, State.legal_iff]
  exact ⟨Form.run_wf _ s hm, Form.run_low _ s hf, run_lockLegal hi hl⟩

theorem runs_wellFormed {i : Instr} {s : State} (h : Runs i s) : i.wellFormed = true := by
  obtain ⟨-, -, rest, hdec⟩ := h
  exact wellFormed_of_decode hdec

theorem beginStep_legal (s : State) : (beginStep s).legal = s.legal := State.legal_congr rfl rfl rfl rfl

theorem fetched_legal (i : Instr) (s : State) : (fetched i s).legal = s.legal := State.legal_congr rfl rfl rfl rfl

/-- Every step keeps the invariant (10_state.md R41, R46). -/
theorem step_keeps_legal {s t : State} (h : s.legal = true) (hs : step s = .next t) : t.legal = true := by
  obtain ⟨n, -, -, rfl⟩ | ⟨i, hi, hx⟩ := step_next_cases hs
  · exact enterInterrupt_keeps_legal n ((beginStep_legal s).trans h)
  · exact exec_keeps_legal (runs_wellFormed hi) ((fetched_legal i s).trans h) hx

end Sys2Proof.Machine

namespace Sys2Proof.Proofs

/-- Settles O10: the reset state's memory is empty, its F zero, and it has neither lock nor record. -/
theorem resetIsLegal : Obligations.ResetIsLegal :=
  (Machine.State.legal_iff _).mpr ⟨Machine.reset_mem_wf, rfl, rfl⟩

/-- Settles O11: the invariant is kept by interrupt entry and by every instruction's form. -/
theorem everyStepKeepsTheStateLegal : Obligations.EveryStepKeepsTheStateLegal :=
  fun _ _ => Machine.step_keeps_legal

end Sys2Proof.Proofs
end

section
/-! Proofs of the statements about the state: the EI delay (10_state.md R45, 45_system.md R414). -/

namespace Sys2Proof.Machine

open Sys2Proof.Statement

theorem acceptedLine_of_ime {s : State} (h : s.ime = true) : acceptedLine s = lowestLine s.irqSample := if_pos h

/-- With ei_pending set, the instruction executes with IME already 1 (60_exceptions.md R510). -/
theorem fetched_ime_of_eiPending (i : Instr) {s : State} (h : s.eiPending = true) : (fetched i s).ime = true := by
  simp [fetched, h]

theorem eq_of_writesIme {i : Instr} (h : i.writesIme = true) : i = .di ∨ i = .ei ∨ i = .reti := by
  unfold Instr.writesIme at h
  split at h
  · exact .inl rfl
  · exact .inr (.inl rfl)
  · exact .inr (.inr rfl)
  · cases h

/-- Only DI takes a set IME back: EI leaves it and RETI sets it. -/
theorem exec_keeps_ime_set {i : Instr} (hdi : i ≠ .di) {s t : State} (hs : s.ime = true) (hx : exec i s = .next t) :
    t.ime = true := by
  rw [(exec_next_iff i s t).mp hx]
  cases hw : i.writesIme
  case false =>
    rw [writesIme_eq_form] at hw
    exact (Form.run_ime (formOf i) s hw).1.trans hs
  case true =>
    obtain rfl | rfl | rfl := eq_of_writesIme hw
    · exact absurd rfl hdi
    · exact hs
    · rfl

theorem exec_keeps_ime {i : Instr} (hi : i.writesIme = false) {s t : State} (hx : exec i s = .next t) :
    t.ime = s.ime ∧ t.eiPending = s.eiPending := by
  rw [(exec_next_iff i s t).mp hx]
  exact Form.run_ime (formOf i) s (writesIme_eq_form i ▸ hi)

theorem exec_keeps_lock {i : Instr} (hi : ∀ op, i ≠ .illegal op) {s t : State} (hx : exec i s = .next t) :
    t.locked = s.locked ∧ t.illegalOpcode = s.illegalOpcode := by
  rw [(exec_next_iff i s t).mp hx]
  exact Form.run_lock (formOf i) s (isIllegal_of_form hi)

/-- A running core with IME = 1 enters the lowest requested line: it is acknowledged and PC is its vector
(60_exceptions.md R506, R511). -/
theorem step_enters_lowestLine {s : State} (hl : s.locked = false) (hime : s.ime = true) {n : Fin 5}
    (hn : lowestLine s.irqSample = some n) : ∃ u, step s = .next u ∧ u.irqAck = some n ∧ u.pc = irqVector n :=
  ⟨_, step_interrupt s n hl ((acceptedLine_of_ime hime).trans hn), rfl, rfl⟩

end Sys2Proof.Machine

namespace Sys2Proof.Proofs

open Sys2Proof.Machine Sys2Proof.Statement

/-- Settles O7: the step after EI executes its instruction with IME already 1, which the instruction keeps unless it
is DI, so that the boundary after it takes a request. -/
theorem eiTakesEffectAfterTheNextInstruction : Obligations.EiTakesEffectAfterTheNextInstruction := by
  refine ⟨fun s => ⟨rfl, ⟨_, rfl, rfl, rfl⟩, fun _ => ⟨rfl, rfl⟩, acceptedLine_masked s⟩, ?_⟩
  intro s i rest hl ha hei hdec
  have hime : (fetched i s).ime = true := fetched_ime_of_eiPending i hei
  have hx : exec i (fetched i s) = .next ((formOf i).run (fetched i s)) := exec_eq_run i _
  refine ⟨hime, rfl, _, (step_eq_exec_fetched ⟨hl, ha, rest, hdec⟩).trans hx, hx, ?_, ?_⟩
  · intro hw
    obtain ⟨hi, hp⟩ := exec_keeps_ime hw hx
    exact ⟨hi.trans hime, hp⟩
  · intro hdi hill n hn
    exact step_enters_lowestLine ((exec_keeps_lock hill hx).1.trans hl) (exec_keeps_ime_set hdi hime hx) hn

end Sys2Proof.Proofs
end

section
/-! Proofs of the statements about the state: power-on and the ROM image (10_state.md R49, 70_reset_and_hazards.md R552). -/

namespace Sys2Proof.Machine

open Sys2Proof.Statement

theorem Memory.read_writeList_below (vs : List Byte) (m : Memory) (a x : Nat) (h : x < a) :
    (m.writeList a vs).read x = m.read x := by
  induction vs generalizing m a with
  | nil => rfl
  | cons v vs ih =>
    rw [Memory.writeList, ih _ _ (by omega)]
    exact Memory.read_write_ne m a x v (by omega)

/-- Reading after a run of stores from `a` on: the run's byte, and past its end the old one. -/
theorem Memory.read_writeList_add (vs : List Byte) (m : Memory) (a k : Nat) :
    (m.writeList a vs).read (a + k) = vs.getD k (m.read (a + k)) := by
  induction vs generalizing m a k with
  | nil => rfl
  | cons v vs ih =>
    rw [Memory.writeList]
    cases k with
    | zero => rw [Memory.read_writeList_below vs _ (a + 1) (a + 0) (by omega)]; exact Memory.read_write_same m a v
    | succ k => rw [Nat.add_comm k 1, ← Nat.add_assoc, ih, Memory.read_write_ne m a _ v (by omega), Nat.add_comm 1 k]; rfl

/-- The bytes of the bus after power-on: the image's, and zero past its end. -/
theorem read_image (image : List Byte) (x : Nat) : (Memory.writeList [] 0 image).read x = image.getD x 0 := by
  have h := Memory.read_writeList_add image [] 0 x
  rwa [Nat.zero_add] at h

theorem mkWord_zero : mkWord 0 0 = 0 := rfl

theorem flags_zero : flagZ 0 = false ∧ flagN 0 = false ∧ flagH 0 = false ∧ flagC 0 = false := by decide

theorem storesByte_store8 (x : Word) (v : Byte) (s : State) : StoresByte x v s (s.store8 x v) :=
  ⟨State.readByte_store8_same x v s, fun y hy => State.readByte_store8_ne x y v s hy⟩

end Sys2Proof.Machine

namespace Sys2Proof.Proofs

open Sys2Proof.Machine Sys2Proof.Statement

/-- Settles O9: the loader writes memory alone, and memory reads as the image over the zero fill. -/
theorem powerOnGivesTheResetValuesAndTheImage : Obligations.PowerOnGivesTheResetValuesAndTheImage := by
  intro image
  obtain ⟨hz, hn, hh, hc⟩ := flags_zero
  refine ⟨fun hle => ⟨{ State.reset with mem := Memory.writeList [] 0 image }, if_pos hle, ?_⟩, fun hlt => if_neg (Nat.not_le.mpr hlt)⟩
  refine ⟨rfl, rfl, rfl, rfl, rfl, rfl, rfl, rfl, rfl, rfl, mkWord_zero, mkWord_zero, mkWord_zero, mkWord_zero, hz, hn, hh, hc, rfl, rfl, rfl, ?_, ?_⟩
  · exact fun x => read_image image x.toNat
  · exact fun x v => storesByte_store8 x v _

end Sys2Proof.Proofs
end

section
/-! Proofs of the statements about the state: the register pairs (10_state.md R36, R37). -/

namespace Sys2Proof.Machine

/-- The mask of AF's write keeps the high nibble in its place. -/
theorem and_F0_toNat (v : Byte) : (v &&& 0xF0#8).toNat = 16 * (v.toNat / 16) := by revert v; decide

theorem State.setAF_a_toNat (v : Word) (s : State) : (s.setAF v).a.toNat = v.toNat / 256 := hi8_toNat v

theorem State.setAF_f_toNat (v : Word) (s : State) : (s.setAF v).f.toNat = 16 * (v.toNat % 256 / 16) := by
  rw [← lo8_toNat]
  exact and_F0_toNat (lo8 v)

end Sys2Proof.Machine

namespace Sys2Proof.Proofs

open Sys2Proof.Machine

/-- Settles O40: a pair is the word of its two bytes, and a word is its two halves again. -/
theorem pairsAreViewsOfTheRegisters : Obligations.PairsAreViewsOfTheRegisters := by
  have hpair : ∀ x y : Byte, (mkWord x y).toNat = 256 * x.toNat + y.toNat := fun x y => by rw [mkWord_toNat, Nat.mul_comm]
  exact fun s v => ⟨hpair _ _, hpair _ _, hpair _ _, hpair _ _, fun p => State.pair_setPair p v s,
    fun p => State.stackPair_setStackPair p v s, State.setAF_a_toNat v s, State.setAF_f_toNat v s⟩

end Sys2Proof.Proofs
end

section
/-! Proofs of the statements about the state: the whole-machine rules (10_state.md R34, R35, R42 to R46; 20_memory.md
R88). -/

namespace Sys2Proof.Machine

open Sys2Proof.Statement

/-- From `s` to `t` the port saw data reads only. -/
def DataReadsOnly (s t : State) : Prop := ∃ reads, t.bus = s.bus ++ reads ∧ ∀ x ∈ reads, ∃ a v, x = BusTxn.read .data a v

theorem DataReadsOnly.of_bus_eq {s t : State} (h : t.bus = s.bus) : DataReadsOnly s t := ⟨[], by simp [h], by simp⟩

theorem DataReadsOnly.of_operandReads {o : Operand8} {s t : State} (h : t.bus = s.bus ++ operandReads o s) :
    DataReadsOnly s t := by
  refine ⟨_, h, ?_⟩
  cases o with
  | reg r => simp [operandReads]
  | mHL => simp [operandReads]

theorem DataReadsOnly.of_read {x : Word} {v : Byte} {s t : State} (h : t.bus = s.bus ++ [.read .data x v]) :
    DataReadsOnly s t := ⟨_, h, by simp⟩

theorem pop16_reads (s : State) : DataReadsOnly s (pop16 s).2 := ⟨_, List.append_assoc _ _ _, by simp⟩

theorem popPair_reads (p : StackPair) (s : State) : DataReadsOnly s (popPair p s) := by
  cases p <;> exact pop16_reads s

theorem ret_reads (t : Bool) (s : State) : DataReadsOnly s (ret t s) := by
  cases t
  case false => exact .of_bus_eq rfl
  case true => exact pop16_reads s

/-- Reading one operand and writing another, a register: the reads of the first alone are driven. -/
theorem writeOperand_reads {o src : Operand8} (h : isMemory o = false) (v : Byte) {s u : State}
    (hu : u.bus = s.bus ++ operandReads src s) : DataReadsOnly s (writeOperand o v u) := by
  cases o with
  | reg r => exact .of_operandReads ((State.setReg_bus r v u).trans hu)
  | mHL => cases h

/-- A form that does not store drives data reads only: those of its operand, of its pointer or of the stack. -/
theorem Form.run_reads (i : Form) (s : State) (h : i.stores = false) : DataReadsOnly s (i.run s) := by
  cases i
  case alu op o => exact .of_operandReads (by rw [run, aluOperand_eq])
  case bit b o => exact .of_operandReads (by rw [run, bitOperand_eq])
  case inc o => rw [run, incOperand_eq]; exact writeOperand_reads h _ rfl
  case dec o => rw [run, decOperand_eq]; exact writeOperand_reads h _ rfl
  case rotate op o => rw [run, rotateOperand_eq]; exact writeOperand_reads h _ rfl
  case res b o => rw [run, resOperand_eq]; exact writeOperand_reads h _ rfl
  case set b o => rw [run, setOperand_eq]; exact writeOperand_reads h _ rfl
  case move d o => rw [run, moveOperand_eq]; exact writeOperand_reads h _ rfl
  case immediate o v =>
    cases o with
    | reg r => exact .of_bus_eq (State.setReg_bus r v s)
    | mHL => cases h
  case loadAPointer p => exact .of_read (by rw [run, loadAPointer_eq])
  case loadA x => exact .of_read rfl
  case loadAHighC => exact .of_read rfl
  case pop p => exact popPair_reads p s
  case ret c => exact ret_reads _ s
  case reti => exact ret_reads true s
  case jump c w => exact .of_bus_eq (by rw [run, jump_frame])
  case jumpRelative c n => exact .of_bus_eq (by rw [run, jump_frame])
  case incPair p => exact .of_bus_eq (by simp [run, Machine.incPair])
  case decPair p => exact .of_bus_eq (by simp [run, Machine.decPair])
  case loadPair p w => exact .of_bus_eq (by simp [run])
  case storeAPointer | storeA | storeAHighC | storeSP | push | call => cases h
  all_goals exact .of_bus_eq rfl

end Sys2Proof.Machine

namespace Sys2Proof.Proofs

open Sys2Proof.Machine Sys2Proof.Statement

/-- Settles O49: an unlisted instruction has a form that keeps F. -/
theorem onlyTheListedInstructionsWriteFlags : Obligations.OnlyTheListedInstructionsWriteFlags := by
  refine ⟨fun i s t hi hx => ?_, enterInterrupt_f⟩
  rw [(exec_next_iff i s t).mp hx]
  exact Form.run_f (formOf i) s (writesFlags_of_form hi)

/-- Settles O50: an instruction that is none of those named has a form that keeps IME and ei_pending, or the lock. -/
theorem onlyTheListedInstructionsWriteTheHiddenState : Obligations.OnlyTheListedInstructionsWriteTheHiddenState :=
  fun _ _ _ hx => ⟨fun hi => exec_keeps_ime hi hx, fun hi => exec_keeps_lock hi hx⟩

/-- Settles O51: an unlisted instruction has a form that keeps SP, or memory with data reads only. -/
theorem onlyTheListedInstructionsWriteSpOrMemory : Obligations.OnlyTheListedInstructionsWriteSpOrMemory := by
  intro i s t hx
  obtain rfl := (exec_next_iff i s t).mp hx
  refine ⟨fun hi => Form.run_sp (formOf i) s (writesSp_eq_form i ▸ hi), fun hi => ⟨fun x => ?_, ?_⟩⟩
  · exact State.readByte_eq_of_mem_eq _ s x (Form.run_mem (formOf i) s (stores_of_form hi))
  · exact Form.run_reads (formOf i) s (stores_of_form hi)

/-- Settles O52: PC is past the instruction's bytes when it executes, and its form keeps PC. -/
theorem pcAdvancesByTheLength : Obligations.PcAdvancesByTheLength := by
  intro s t i hi htr hs
  have hpc : t.pc = s.pc + BitVec.ofNat 16 (encode i).length := by
    rw [step_eq_exec_fetched hi, exec_next_iff] at hs
    rw [hs]
    exact Form.run_pc (formOf i) (fetched i s) (transfersControl_eq_form i ▸ htr)
  obtain ⟨-, -, rest, hdec⟩ := hi
  obtain ⟨-, -, hlen⟩ := encode_of_decode hdec
  refine ⟨?_, hlen⟩
  simp [hpc, BitVec.toNat_add]

end Sys2Proof.Proofs
end

section
/-! Proofs of the statements about memory: the port's record as the account of every store (20_memory.md R98, R99). -/

namespace Sys2Proof.Machine

open Sys2Proof.Statement

/-! ## Replaying a record -/

theorem replay_append (xs ys : List BusTxn) (m : Memory) : replay (xs ++ ys) m = replay ys (replay xs m) := List.foldl_append

/-- Reads leave the bus contents alone (20_memory.md R90). -/
theorem replay_of_reads {txns : List BusTxn} (h : ∀ x ∈ txns, ∃ k a v, x = BusTxn.read k a v) (m : Memory) : replay txns m = m := by
  induction txns with
  | nil => rfl
  | cons x xs ih =>
    obtain ⟨hx, hxs⟩ := List.forall_mem_cons.mp h
    obtain ⟨k, a, v, rfl⟩ := hx
    exact ih hxs

theorem replay_fetchReads (s : State) (x : Word) (n : Nat) (m : Memory) : replay (fetchReads s x n) m = m :=
  replay_of_reads (fun b hb => ⟨.fetch, mem_fetchReads s x n b hb⟩) m

/-! ## Runs of the machine that the port accounts for -/

/-- From `s` to `t` the port saw data transactions only, and replaying them on the memory of `s` gives that of `t`. -/
def PortAccounts (s t : State) : Prop :=
  ∃ data, t.bus = s.bus ++ data ∧ t.mem = replay data s.mem ∧
    ∀ x ∈ data, ∃ a v, x = BusTxn.read .data a v ∨ x = BusTxn.write .data a v

theorem PortAccounts.trans {s t u : State} (hst : PortAccounts s t) (htu : PortAccounts t u) : PortAccounts s u := by
  obtain ⟨xs, hxb, hxm, hxd⟩ := hst
  obtain ⟨ys, hyb, hym, hyd⟩ := htu
  refine ⟨xs ++ ys, ?_, ?_, List.forall_mem_append.mpr ⟨hxd, hyd⟩⟩
  · rw [hyb, hxb, List.append_assoc]
  · rw [replay_append, ← hxm, hym]

theorem PortAccounts.of_reads {s t : State} (hm : t.mem = s.mem) (hr : DataReadsOnly s t) : PortAccounts s t := by
  obtain ⟨reads, hb, hd⟩ := hr
  refine ⟨reads, hb, ?_, fun x hx => ?_⟩
  · rw [replay_of_reads (fun x hx => ⟨.data, hd x hx⟩), hm]
  · obtain ⟨a, v, rfl⟩ := hd x hx
    exact ⟨a, v, .inl rfl⟩

theorem portAccounts_store8 (x : Word) (v : Byte) (s : State) : PortAccounts s (s.store8 x v) :=
  ⟨[.write .data x v], rfl, rfl, by simp⟩

theorem portAccounts_store16 (x v : Word) (s : State) : PortAccounts s (s.store16 x v) :=
  (portAccounts_store8 x (lo8 v) s).trans (portAccounts_store8 (x + 1) (hi8 v) _)

theorem portAccounts_push16 (v : Word) (s : State) : PortAccounts s (push16 v s) := portAccounts_store16 (s.sp - 2) v _

theorem portAccounts_writeOperand (o : Operand8) (v : Byte) (s : State) : PortAccounts s (writeOperand o v s) := by
  cases o with
  | reg r => exact .of_reads (State.setReg_mem r v s) (.of_bus_eq (State.setReg_bus r v s))
  | mHL => exact portAccounts_store8 s.hl v s

/-- A read of one operand, then a write of another, whatever registers change in between. -/
theorem portAccounts_readWrite {s u : State} (src o : Operand8) (v : Byte) (hm : u.mem = s.mem)
    (hb : u.bus = s.bus ++ operandReads src s) : PortAccounts s (writeOperand o v u) :=
  (PortAccounts.of_reads hm (.of_operandReads hb)).trans (portAccounts_writeOperand o v u)

theorem portAccounts_call (t : Bool) (w : Word) (s : State) : PortAccounts s (call t w s) := by
  cases t
  case false => exact .of_reads rfl (.of_bus_eq rfl)
  case true => exact portAccounts_push16 s.pc s

/-- Every form's stores are on the port: a form that does not store drives reads alone, and each that does is a read
and a write of operands, one store of A, or a word store. -/
theorem Form.run_portAccounts (i : Form) (s : State) : PortAccounts s (i.run s) := by
  by_cases hs : i.stores = false
  · exact .of_reads (Form.run_mem i s hs) (Form.run_reads i s hs)
  · cases i
    case inc o => rw [run, incOperand_eq]; exact portAccounts_readWrite o o _ rfl rfl
    case dec o => rw [run, decOperand_eq]; exact portAccounts_readWrite o o _ rfl rfl
    case rotate op o => rw [run, rotateOperand_eq]; exact portAccounts_readWrite o o _ rfl rfl
    case res b o => rw [run, resOperand_eq]; exact portAccounts_readWrite o o _ rfl rfl
    case set b o => rw [run, setOperand_eq]; exact portAccounts_readWrite o o _ rfl rfl
    case move d o => rw [run, moveOperand_eq]; exact portAccounts_readWrite o d _ rfl rfl
    case immediate o v => exact portAccounts_writeOperand o v s
    case storeAPointer p => rw [run, storeAPointer_eq]; exact portAccounts_store8 (pointerAddr p s) s.a s
    case storeA x => exact portAccounts_store8 x s.a s
    case storeAHighC => exact portAccounts_store8 (highPage s.c) s.a s
    case storeSP x => exact portAccounts_store16 x s.sp s
    case push p => exact portAccounts_push16 (s.stackPair p) s
    case call c w => exact portAccounts_call (taken c s) w s
    all_goals exact absurd rfl hs

theorem enterInterrupt_portAccounts (n : Fin 5) (s : State) : PortAccounts s (enterInterrupt n s) :=
  portAccounts_push16 s.pc { s with ime := false, eiPending := false }

/-- Every completed step fetches at most three bytes from PC on, memory unchanged, and the port accounts for the rest
of the step (60_exceptions.md R510: an interrupt entry fetches none). -/
theorem step_fetches_then_portAccounts {s t : State} (h : step s = .next t) :
    ∃ n u, n ≤ 3 ∧ u.bus = fetchReads s s.pc n ∧ u.mem = s.mem ∧ PortAccounts u t := by
  obtain ⟨n, -, -, rfl⟩ | ⟨i, ⟨-, -, rest, hdec⟩, hx⟩ := step_next_cases h
  · exact ⟨0, beginStep s, by omega, rfl, rfl, enterInterrupt_portAccounts n (beginStep s)⟩
  · obtain ⟨-, -, -, hlen⟩ := encode_of_decode hdec
    obtain rfl := (exec_next_iff i _ t).mp hx
    exact ⟨(encode i).length, fetched i s, hlen, rfl, rfl, Form.run_portAccounts (formOf i) (fetched i s)⟩

end Sys2Proof.Machine

namespace Sys2Proof.Proofs

open Sys2Proof.Machine Sys2Proof.Statement

/-- Settles O13: the fetch reads replay to nothing, and the port accounts for the rest of the step. -/
theorem theBusPortAccountsForEveryStore : Obligations.TheBusPortAccountsForEveryStore := by
  intro s t hs
  obtain ⟨n, u, hn, hub, hum, data, hb, hm, hd⟩ := step_fetches_then_portAccounts hs
  rw [hub] at hb
  rw [hum] at hm
  refine ⟨?_, n, data, hn, hb, hd⟩
  rw [hb, replay_append, replay_fetchReads, hm]

end Sys2Proof.Proofs
end

section
/-! Proofs of the statements about memory: byte and word stores (20_memory.md R83 to R86), and the direct memory
interface (R99). -/

namespace Sys2Proof.Machine

open Sys2Proof.Statement

theorem storesWord_store16 (x v : Word) (s : State) : StoresWord x v s (s.store16 x v) := by
  refine ⟨?_, ?_, fun y hx hx1 => ?_⟩
  · rw [State.readByte_store16, if_neg (word_ne_add_one x), if_pos rfl, lo8_toNat]
  · rw [State.readByte_store16, if_pos rfl, hi8_toNat]
  · rw [State.readByte_store16, if_neg hx1, if_neg hx]

/-- The direct interface writes what a byte store writes, with no transaction on the core's port (R99). -/
theorem pokeByte_eq (x : Word) (b : Byte) (s : State) : pokeByte x b s = { s with mem := (s.store8 x b).mem } := rfl

theorem pokeWord_eq (x v : Word) (s : State) : pokeWord x v s = { s with mem := (s.store16 x v).mem } := rfl

end Sys2Proof.Machine

namespace Sys2Proof.Proofs

open Sys2Proof.Machine Sys2Proof.Statement

/-- Settles O12: read-over-write of a byte store and of the word store made of two. -/
theorem wordsAreLittleEndianAndWrapAtTheTop : Obligations.WordsAreLittleEndianAndWrapAtTheTop :=
  fun s x v b => ⟨storesByte_store8 x b s, storesWord_store16 x v s, State.readWord_store16_same x v s, readWord_toNat s x⟩

/-- Settles O14: a poke leaves the memory of the core's own store, and nothing else of it. -/
theorem directMemoryAccessTouchesMemoryOnly : Obligations.DirectMemoryAccessTouchesMemoryOnly := by
  intro s x v b
  refine ⟨_, _, pokeByte_eq x b s, pokeWord_eq x v s, rfl, rfl, ?_⟩
  exact ⟨storesByte_store8 x b s, storesWord_store16 x v s, State.readByte_store8_same x b s,
    State.readWord_store16_same x v s, fun h => ⟨State.wf_store8 x b s h, State.wf_store16 x v s h⟩⟩

end Sys2Proof.Proofs
end

section
/-! Proofs of the statements about the encoding: the round trip through bytes both ways, and the condition codes. -/

namespace Sys2Proof

open Laws

/-- Every constructor has the round trip: ILLEGAL by the list of the unassigned opcodes, the rows with a word operand
because its two bytes make the word again (R124), `prefix_CB` because it is never well-formed; the other rows evaluate. -/
theorem roundTrip_statement (i : Instr) : RoundTrip.Statement i := by
  cases i with
  | illegal op => exact RoundTrip.illegal op
  | prefix_CB op2 => exact RoundTrip.prefix_CB op2
  | ld_BC_d16 w => exact RoundTrip.ld_BC_d16 w
  | ld_DE_d16 w => exact RoundTrip.ld_DE_d16 w
  | ld_HL_d16 w => exact RoundTrip.ld_HL_d16 w
  | ld_SP_d16 w => exact RoundTrip.ld_SP_d16 w
  | ld_ma16_SP w => exact RoundTrip.ld_ma16_SP w
  | ld_ma16_A w => exact RoundTrip.ld_ma16_A w
  | ld_A_ma16 w => exact RoundTrip.ld_A_ma16 w
  | jp_a16 w => exact RoundTrip.jp_a16 w
  | jp_NZ_a16 w => exact RoundTrip.jp_NZ_a16 w
  | jp_Z_a16 w => exact RoundTrip.jp_Z_a16 w
  | jp_NC_a16 w => exact RoundTrip.jp_NC_a16 w
  | jp_C_a16 w => exact RoundTrip.jp_C_a16 w
  | call_a16 w => exact RoundTrip.call_a16 w
  | call_NZ_a16 w => exact RoundTrip.call_NZ_a16 w
  | call_Z_a16 w => exact RoundTrip.call_Z_a16 w
  | call_NC_a16 w => exact RoundTrip.call_NC_a16 w
  | call_C_a16 w => exact RoundTrip.call_C_a16 w
  | _ => exact fun _ _ => rfl

theorem decode_encode {i : Instr} (h : i.wellFormed = true) (rest : List Byte) : decode (encode i ++ rest) = .ok (i, rest) :=
  roundTrip_statement i h rest

end Sys2Proof

namespace Sys2Proof.Machine

/-- Z is the top bit of F (10_state.md R40), so division by 128 leaves it alone. -/
theorem flagZ_eq (f : Byte) : flagZ f = decide (f.toNat / 128 = 1) := by
  have := f.isLt
  rw [flagZ, BitVec.getLsbD, Nat.testBit_eq_decide_div_mod_eq]
  exact decide_eq_decide.mpr (by omega)

theorem flagC_eq (f : Byte) : flagC f = decide (f.toNat / 16 % 2 = 1) := Nat.testBit_eq_decide_div_mod_eq

theorem not_flagZ_eq (f : Byte) : (!flagZ f) = decide (f.toNat / 128 = 0) := by
  have := f.isLt
  rw [flagZ, not_getLsbD]
  exact decide_eq_decide.mpr (by omega)

end Sys2Proof.Machine

namespace Sys2Proof.Proofs

open Sys2Proof.Machine

/-- Settles O2: constructor by constructor. -/
theorem decodeOfEncodeIsTheInstruction : Obligations.DecodeOfEncodeIsTheInstruction :=
  fun _ rest h => decode_encode h rest

/-- Settles O3: by the length that the first byte fixes. -/
theorem decodedBytesAreTheEncodingAndEveryOpcodeDecodes : Obligations.DecodedBytesAreTheEncodingAndEveryOpcodeDecodes := by
  refine ⟨fun bytes rest i h => ?_, decode_three⟩
  obtain ⟨hbytes, hwf, -⟩ := encode_of_decode h
  exact ⟨hbytes, hwf⟩

/-- Settles O1: each word is the encoding of its instruction, so the round trip gives it back; the cut CALL lacks a byte. -/
theorem decodeReadsTheGridsWords : Obligations.DecodeReadsTheGridsWords :=
  ⟨decode_encode (i := .nop) rfl [], decode_encode (i := .ld_BC_d16 0x1234) rfl [],
    decode_encode (i := .jr_NZ_e8 0xFC) rfl [0x00], decode_encode (i := .halt) rfl [],
    decode_encode (i := .stop 0xD3) rfl [], decode_encode (i := .adc_A_mHL) rfl [],
    decode_encode (i := .add_A_d8 0xFF) rfl [], decode_encode (i := .ldh_ma8_A 0x80) rfl [],
    decode_encode (i := .pop_AF) rfl [], decode_encode (i := .ld_HL_SPe8 0x02) rfl [],
    decode_encode (i := .call_a16 0x0200) rfl [], decode_encode (i := .set_1_E) rfl [],
    decode_encode (i := .swap_A) rfl [], decode_encode (i := .illegal 0xD3) rfl [], rfl⟩

/-- Settles O42: each condition is Z, C or its complement, read as a number. -/
theorem conditionsReadZAndC : Obligations.ConditionsReadZAndC :=
  ⟨rfl, rfl, rfl, rfl, fun f => ⟨not_flagZ_eq f, flagZ_eq f, not_getLsbD f 4, flagC_eq f⟩⟩

end Sys2Proof.Proofs
end

section
/-! Proofs of the statements about 8-bit arithmetic and logic: the operations on A in their r, (HL) and d8 forms
(40_alu8.md R201 to R205, R207 to R230), as one write of A and F. -/

namespace Sys2Proof

/-! ## Encodings -/

theorem encode_aluRow (op : AluOp) (o : Operand8) : encode (aluRow op o) = [0x80 + 8 * aluCode op + operandCode o] := by
  cases o with
  | reg r => cases op <;> cases r <;> rfl
  | mHL => cases op <;> rfl

theorem encode_aluImmRow (op : AluOp) (d : Byte) : encode (aluImmRow op d) = [0xC6 + 8 * aluCode op, d] := by cases op <;> rfl

theorem encode_incRow (o : Operand8) : encode (incRow o) = [0x04 + 8 * operandCode o] := by
  cases o with
  | reg r => cases r <;> rfl
  | mHL => rfl

theorem encode_decRow (o : Operand8) : encode (decRow o) = [0x05 + 8 * operandCode o] := by
  cases o with
  | reg r => cases r <;> rfl
  | mHL => rfl

end Sys2Proof

namespace Sys2Proof.Machine

open Sys2Proof.Statement

/-! ## What a flag write leaves -/

theorem flagsAre_of_setFlags {z n h c : Bool} {s t : State} (hf : t.f = setFlags z n h c s.f) : FlagsAre z n h c s t := by
  simp [FlagsAre, hf]

/-- The flag write of INC and DEC keeps C (40_alu8.md R231, R232). -/
theorem flagsAre_of_setZNH {z n h : Bool} {s t : State} (hf : t.f = setH h (setN n (setZ z s.f))) :
    FlagsAre z n h (flagC s.f) s t := by
  simp [FlagsAre, hf]

/-- The flag write of DAA keeps N (40_alu8.md R237). -/
theorem flagsAre_of_setZHC {z h c : Bool} {s t : State} (hf : t.f = setC c (setH h (setZ z s.f))) :
    FlagsAre z (flagN s.f) h c s t := by
  simp [FlagsAre, hf]

/-- The flag write of SCF and CCF keeps Z (40_alu8.md R239, R240). -/
theorem flagsAre_of_setNHC {n h c : Bool} {s t : State} (hf : t.f = setC c (setH h (setN n s.f))) :
    FlagsAre (flagZ s.f) n h c s t := by
  simp [FlagsAre, hf]

/-- The flag write of CPL keeps Z and C (40_alu8.md R238). -/
theorem flagsAre_of_setNH {n h : Bool} {s t : State} (hf : t.f = setH h (setN n s.f)) :
    FlagsAre (flagZ s.f) n h (flagC s.f) s t := by
  simp [FlagsAre, hf]

/-! ## The operations on A, whatever the operand's form -/

/-- What an ALU operation leaves in A and in F: CP keeps A (40_alu8.md R228). -/
def aluWritten (op : AluOp) (a v f : Byte) : Byte × Byte :=
  (if op = .cp then a else (aluResult op a v f).1, (aluResult op a v f).2)

theorem exec_aluRow_eq (op : AluOp) (o : Operand8) (s : State) :
    exec (aluRow op o) s =
      .next (writeAF8 (aluWritten op s.a (operandValue o s) s.f) { s with bus := s.bus ++ operandReads o s }) := by
  rw [exec_aluRow, aluOperand_eq]
  rfl

theorem exec_aluImmRow_eq (op : AluOp) (d : Byte) (s : State) :
    exec (aluImmRow op d) s = .next (writeAF8 (aluWritten op s.a d s.f) { s with bus := s.bus ++ [] }) := by
  rw [exec_aluImmRow, aluA_eq, List.append_nil]
  rfl

section
variable {i : Instr} {v : Byte} {reads : List BusTxn} {s : State}

theorem sumOutcome_of_exec {cin : Bool}
    (hx : exec i s = .next (writeAF8 (add8 s.a v cin s.f) { s with bus := s.bus ++ reads })) : SumOutcome i v cin reads s :=
  ⟨_, hx, rfl, add8_toNat s.a v cin s.f, flagsAre_of_setFlags (add8_flags s.a v cin s.f)⟩

theorem differenceOutcome_of_exec {cin keepsA : Bool}
    (hx : exec i s = .next (writeAF8 (if keepsA then s.a else (sub8 s.a v cin s.f).1, (sub8 s.a v cin s.f).2)
      { s with bus := s.bus ++ reads })) : DifferenceOutcome i v cin keepsA reads s :=
  ⟨_, hx, _, sub8_toNat s.a v cin s.f, rfl, flagsAre_of_setFlags (sub8_flags s.a v cin s.f)⟩

theorem logicOutcome_of_exec {bit : Bool → Bool → Bool} {h : Bool} {r : Byte × Byte}
    (hx : exec i s = .next (writeAF8 r { s with bus := s.bus ++ reads }))
    (hbit : ∀ k, r.1.getLsbD k = bit (s.a.getLsbD k) (v.getLsbD k))
    (hf : r.2 = setFlags (r.1 == 0) false h false s.f) : LogicOutcome i v bit h reads s :=
  ⟨_, hx, rfl, fun k _ => hbit k, flagsAre_of_setFlags hf⟩

theorem logicOutcome_of_and (hx : exec i s = .next (writeAF8 (and8 s.a v s.f) { s with bus := s.bus ++ reads })) :
    LogicOutcome i v and true reads s :=
  logicOutcome_of_exec hx (and8_bit s.a v s.f) (and8_flags s.a v s.f)

theorem logicOutcome_of_xor (hx : exec i s = .next (writeAF8 (xor8 s.a v s.f) { s with bus := s.bus ++ reads })) :
    LogicOutcome i v xor false reads s :=
  logicOutcome_of_exec hx (xor8_bit s.a v s.f) (xor8_flags s.a v s.f)

theorem logicOutcome_of_or (hx : exec i s = .next (writeAF8 (or8 s.a v s.f) { s with bus := s.bus ++ reads })) :
    LogicOutcome i v or false reads s :=
  logicOutcome_of_exec hx (or8_bit s.a v s.f) (or8_flags s.a v s.f)

end

end Sys2Proof.Machine

namespace Sys2Proof.Proofs

open Sys2Proof.Machine

/-- Settles O15: `add8` with the carry-in 0 or C, in each operand form. -/
theorem addAndAdcGiveTheSum : Obligations.AddAndAdcGiveTheSum :=
  ⟨fun o => ⟨encode_aluRow .add o, encode_aluRow .adc o⟩, fun d => ⟨encode_aluImmRow .add d, encode_aluImmRow .adc d⟩,
    fun o s => sumOutcome_of_exec (exec_aluRow_eq .add o s), fun o s => sumOutcome_of_exec (exec_aluRow_eq .adc o s),
    fun d s => sumOutcome_of_exec (exec_aluImmRow_eq .add d s), fun d s => sumOutcome_of_exec (exec_aluImmRow_eq .adc d s)⟩

/-- Settles O16: `sub8` with the carry-in 0 or C, in each operand form. -/
theorem subAndSbcGiveTheDifference : Obligations.SubAndSbcGiveTheDifference :=
  ⟨fun o => ⟨encode_aluRow .sub o, encode_aluRow .sbc o⟩, fun d => ⟨encode_aluImmRow .sub d, encode_aluImmRow .sbc d⟩,
    fun o s => differenceOutcome_of_exec (exec_aluRow_eq .sub o s), fun o s => differenceOutcome_of_exec (exec_aluRow_eq .sbc o s),
    fun d s => differenceOutcome_of_exec (exec_aluImmRow_eq .sub d s), fun d s => differenceOutcome_of_exec (exec_aluImmRow_eq .sbc d s)⟩

/-- Settles O17: `sub8` again, with A kept. -/
theorem cpWritesTheFlagsOfTheDifference : Obligations.CpWritesTheFlagsOfTheDifference :=
  ⟨encode_aluRow .cp, encode_aluImmRow .cp, fun o s => differenceOutcome_of_exec (exec_aluRow_eq .cp o s),
    fun d s => differenceOutcome_of_exec (exec_aluImmRow_eq .cp d s)⟩

/-- Settles O18: `and8`, `xor8` and `or8`, in each operand form. -/
theorem andXorOrWorkBitByBit : Obligations.AndXorOrWorkBitByBit :=
  ⟨fun o => ⟨encode_aluRow .and o, encode_aluRow .xor o, encode_aluRow .or o⟩,
    fun d => ⟨encode_aluImmRow .and d, encode_aluImmRow .xor d, encode_aluImmRow .or d⟩,
    fun o s => ⟨logicOutcome_of_and (exec_aluRow_eq .and o s), logicOutcome_of_xor (exec_aluRow_eq .xor o s),
      logicOutcome_of_or (exec_aluRow_eq .or o s)⟩,
    fun d s => ⟨logicOutcome_of_and (exec_aluImmRow_eq .and d s), logicOutcome_of_xor (exec_aluImmRow_eq .xor d s),
      logicOutcome_of_or (exec_aluImmRow_eq .or d s)⟩⟩

end Sys2Proof.Proofs
end

section
/-! Proofs of the statements about 8-bit arithmetic and logic: INC and DEC as the read of an operand and the write of
its new value (40_alu8.md R231 to R236); DAA, CPL, SCF and CCF (R237 to R240). -/

namespace Sys2Proof.Machine

open Sys2Proof.Statement

/-! ## The read of an operand and the write of its new value -/

/-- The operand `o` read and `v` written to it, with F written `g` in between: the shape of every instruction that
changes an operand in its place. -/
def replaceOperand (o : Operand8) (v g : Byte) (s : State) : State :=
  writeOperand o v { s with f := g, bus := s.bus ++ operandReads o s }

section
variable (o : Operand8) (v g : Byte) (s : State)

theorem replaceOperand_f : (replaceOperand o v g s).f = g := writeOperand_f o v _

theorem operandValue_replaceOperand : operandValue o (replaceOperand o v g s) = v := operandValue_writeOperand o v _

theorem replaceOperand_writesOnly : WritesOnly o v s (replaceOperand o v g s) := by
  cases o with
  | reg r => exact ⟨State.reg_setReg_same r v _, fun q hq => State.reg_setReg_ne r q v _ hq, writeOperand_reg_readByte r v _⟩
  | mHL =>
    exact ⟨fun q => writeOperand_mHL_reg q v _, State.readByte_store8_same s.hl v _,
      fun x hx => State.readByte_store8_ne s.hl x v _ hx⟩

theorem replaceOperand_sameControl : SameControl s (replaceOperand o v g s) := by simp [SameControl, replaceOperand]

theorem replaceOperand_bus : (replaceOperand o v g s).bus = s.bus ++ operandReads o s ++ operandWrites o v s := by
  cases o <;> exact writeOperand_bus _ v _

end

theorem exec_incRow_eq (o : Operand8) (s : State) :
    exec (incRow o) s = .next (replaceOperand o (inc8 (operandValue o s) s.f).1 (inc8 (operandValue o s) s.f).2 s) := by
  rw [exec_incRow, incOperand_eq, replaceOperand]

theorem exec_decRow_eq (o : Operand8) (s : State) :
    exec (decRow o) s = .next (replaceOperand o (dec8 (operandValue o s) s.f).1 (dec8 (operandValue o s) s.f).2 s) := by
  rw [exec_decRow, decOperand_eq, replaceOperand]

end Sys2Proof.Machine

namespace Sys2Proof.Proofs

open Sys2Proof.Machine

/-- Settles O19: `inc8` or `dec8` of the operand, put in its place. -/
theorem incAndDecStepTheOperandAndKeepC : Obligations.IncAndDecStepTheOperandAndKeepC := by
  refine ⟨fun o => ⟨encode_incRow o, encode_decRow o⟩, fun o s => ?_, fun o s => ?_⟩
  · refine ⟨_, exec_incRow_eq o s, _, inc8_toNat _ s.f, replaceOperand_writesOnly o _ _ s, replaceOperand_sameControl o _ _ s,
      replaceOperand_bus o _ _ s, flagsAre_of_setZNH ?_⟩
    rw [replaceOperand_f, inc8_flags]
  · refine ⟨_, exec_decRow_eq o s, _, dec8_toNat _ s.f, replaceOperand_writesOnly o _ _ s, replaceOperand_sameControl o _ _ s,
      replaceOperand_bus o _ _ s, flagsAre_of_setZNH ?_⟩
    rw [replaceOperand_f, dec8_flags]

/-- Settles O20: the two adjustments are those of `daa`. -/
theorem daaAdjustsByTheFlagsAndTheOldA : Obligations.DaaAdjustsByTheFlagsAndTheOldA :=
  ⟨rfl, fun s => ⟨_, exec_eq_run .daa s, rfl, daaLow s.a s.f, daaHigh s.a s.f, rfl, rfl, daa_toNat_add s.a s.f,
    daa_toNat_sub s.a s.f, flagsAre_of_setZHC (daa_flags s.a s.f)⟩⟩

/-- Settles O21: each writes its flags and keeps the others. -/
theorem cplScfCcfKeepZ : Obligations.CplScfCcfKeepZ :=
  ⟨rfl, rfl, rfl,
    fun s => ⟨_, exec_eq_run .cpl s, rfl, cpl_toNat s.a s.f, flagsAre_of_setNH (cpl_flags s.a s.f)⟩,
    fun s => ⟨_, exec_eq_run .scf s, rfl, flagsAre_of_setNHC rfl⟩,
    fun s => ⟨_, exec_eq_run .ccf s, rfl, flagsAre_of_setNHC rfl⟩⟩

end Sys2Proof.Proofs
end

section
/-! Proofs of the statements about 8-bit arithmetic and logic: decimal addition and the round trips (40_alu8.md R241). -/

namespace Sys2Proof.Machine

open Sys2Proof.Statement

/-! ## Decimal addition -/

/-- After an addition of two digits DAA adjusts the low nibble exactly when their sum exceeds 9: a nibble above 9 shows
sums up to 15, H those above. -/
theorem daaLow_add8 {a v : Byte} (ha : Bcd a) (hv : Bcd v) (f : Byte) :
    daaLow (add8 a v false f).1 (add8 a v false f).2 = decide (a.toNat % 16 + v.toNat % 16 > 9) := by
  obtain ⟨-, ha0⟩ := ha
  obtain ⟨-, hv0⟩ := hv
  have hnib : (add8 a v false f).1.toNat % 16 = (a.toNat % 16 + v.toNat % 16) % 16 := by
    rw [add8_toNat, Bool.toNat_false]; omega
  rw [daaLow, add8_flags, flagH_setFlags, flagN_setFlags, Bool.toNat_false, hnib, Bool.not_false, Bool.true_and, ← Bool.decide_or]
  exact decide_eq_decide.mpr (by omega)

/-- After an addition of two packed-BCD bytes DAA adjusts the high nibble exactly when the decimal sum exceeds 99: a
byte above 0x99 shows sums up to 0xFF, C those above. -/
theorem daaHigh_add8 {a v : Byte} (ha : Bcd a) (hv : Bcd v) (f : Byte) :
    daaHigh (add8 a v false f).1 (add8 a v false f).2 = decide (bcdValue a + bcdValue v > 99) := by
  obtain ⟨ha1, ha0⟩ := ha
  obtain ⟨hv1, hv0⟩ := hv
  rw [daaHigh, add8_flags, flagC_setFlags, flagN_setFlags, add8_toNat, Bool.toNat_false, Bool.not_false, Bool.true_and, ← Bool.decide_or]
  refine decide_eq_decide.mpr ?_
  unfold bcdValue
  omega

/-- A sum below twice the base carries at most 1, and the carry is its quotient by the base. -/
theorem toNat_decide_eq_div {n x : Nat} (hx : x < 2 * (n + 1)) : (decide (x > n)).toNat = x / (n + 1) := by
  by_cases h : x > n
  · rw [decide_eq_true h, Bool.toNat_true, Nat.div_eq_of_lt_le (k := 1) (by omega) (by omega)]
  · rw [decide_eq_false h, Bool.toNat_false, Nat.div_eq_of_lt (by omega)]

/-- DAA leaves the two low digits of the decimal sum: 6 more for a digit that carries takes the carry to the next nibble
and leaves the digit less 10. -/
theorem daa_add8_toNat {a v : Byte} (ha : Bcd a) (hv : Bcd v) (f : Byte) :
    (daa (add8 a v false f).1 (add8 a v false f).2).1.toNat =
      16 * ((bcdValue a + bcdValue v) % 100 / 10) + (bcdValue a + bcdValue v) % 10 := by
  have hn : flagN (add8 a v false f).2 = false := by rw [add8_flags, flagN_setFlags]
  rw [daa_toNat_add _ _ hn, daaLow_add8 ha hv, daaHigh_add8 ha hv, add8_toNat, Bool.toNat_false]
  obtain ⟨ha1, ha0⟩ := ha
  obtain ⟨hv1, hv0⟩ := hv
  have hle : bcdValue a + bcdValue v < 200 := by unfold bcdValue; omega
  have hsum : a.toNat + v.toNat + 6 * ((a.toNat % 16 + v.toNat % 16) / 10) + 0x60 * ((bcdValue a + bcdValue v) / 100) =
      256 * ((bcdValue a + bcdValue v) / 100) + (16 * ((bcdValue a + bcdValue v) % 100 / 10) + (bcdValue a + bcdValue v) % 10) := by
    unfold bcdValue; omega
  rw [toNat_decide_eq_div (n := 9) (by omega), toNat_decide_eq_div (n := 99) hle]
  omega

theorem bcd_daa_add8 {a v : Byte} (ha : Bcd a) (hv : Bcd v) (f : Byte) :
    Bcd (daa (add8 a v false f).1 (add8 a v false f).2).1 ∧
      bcdValue (daa (add8 a v false f).1 (add8 a v false f).2).1 = (bcdValue a + bcdValue v) % 100 := by
  rw [Bcd, bcdValue, daa_add8_toNat ha hv]
  omega

/-! ## Round trips -/

theorem sub8_add8 (a v f g : Byte) : (sub8 (add8 a v false f).1 v false g).1 = a := by
  have ha := a.isLt
  have h := sub8_toNat (add8 a v false f).1 v false g
  rw [add8_toNat, Bool.toNat_false] at h
  exact BitVec.eq_of_toNat_eq (by omega)

theorem dec8_inc8 (v f g : Byte) : (dec8 (inc8 v f).1 g).1 = v := by
  have hv := v.isLt
  apply BitVec.eq_of_toNat_eq
  rw [dec8_toNat, inc8_toNat]
  omega

end Sys2Proof.Machine

namespace Sys2Proof.Proofs

open Sys2Proof.Machine

/-- Settles O22: DAA adjusts each digit of the binary sum that carries. -/
theorem daaAfterAddIsDecimalAddition : Obligations.DaaAfterAddIsDecimalAddition := by
  intro s v ha hv
  obtain ⟨hbcd, hval⟩ := bcd_daa_add8 ha hv s.f
  refine ⟨_, _, exec_aluImmRow_eq .add v s, exec_eq_run .daa _, hbcd, hval, ?_⟩
  exact (flagC_setC _ _).trans (daaHigh_add8 ha hv s.f)

/-- Settles O23: `sub8` undoes `add8` and `dec8` undoes `inc8`, and Z tells whether the restored value is 0. -/
theorem addThenSubAndIncThenDecRestoreTheValue : Obligations.AddThenSubAndIncThenDecRestoreTheValue := by
  refine ⟨fun s v => ?_, fun s o => ?_⟩
  · have ha : (sub8 (add8 s.a v false s.f).1 v false (add8 s.a v false s.f).2).1 = s.a := sub8_add8 ..
    refine ⟨_, _, exec_aluImmRow_eq .add v s, exec_aluImmRow_eq .sub v _, ha, ?_⟩
    exact (flagZ_setFlags _ _ _ _ _).trans (congrArg (· == 0) ha)
  · refine ⟨_, _, exec_incRow_eq o s, exec_decRow_eq o _, ?_, ?_, ?_⟩
    · rw [operandValue_replaceOperand, operandValue_replaceOperand, dec8_inc8]
    · rw [replaceOperand_f, operandValue_replaceOperand, dec8_flags, flagZ_setH, flagZ_setN, flagZ_setZ, dec8_inc8]
    · rw [replaceOperand_f, dec8_flags, flagN_setH, flagN_setN]

end Sys2Proof.Proofs
end

section
/-! Proofs of the statements about 16-bit arithmetic (41_alu16.md R260 to R266). -/

namespace Sys2Proof

/-! ## Encodings -/

theorem encode_addHLRow (p : Pair) : encode (addHLRow p) = [0x09 + 0x10 * pairCode p] := by cases p <;> rfl

theorem encode_incPairRow (p : Pair) : encode (incPairRow p) = [0x03 + 0x10 * pairCode p] := by cases p <;> rfl

theorem encode_decPairRow (p : Pair) : encode (decPairRow p) = [0x0B + 0x10 * pairCode p] := by cases p <;> rfl

end Sys2Proof

namespace Sys2Proof.Machine

/-! ## The pair that each operation writes -/

theorem addHL_hl (p : Pair) (s : State) : (addHL p s).hl = (add16 s.hl (s.pair p) s.f).1 := State.hl_setHL _ s

theorem loadHLFromSP_hl (n : Byte) (s : State) : (loadHLFromSP n s).hl = (addsp s.sp n s.f).1 := State.hl_setHL _ s

theorem addHL_hl_toNat (p : Pair) (s : State) : (addHL p s).hl.toNat = (s.hl.toNat + (s.pair p).toNat) % 65536 := by
  rw [addHL_hl, add16_toNat]

theorem incPair_pair_toNat (p : Pair) (s : State) : ((incPair p s).pair p).toNat = ((s.pair p).toNat + 1) % 65536 := by
  rw [incPair, State.pair_setPair]
  exact BitVec.toNat_add (s.pair p) 1

theorem decPair_pair_toNat (p : Pair) (s : State) : ((decPair p s).pair p).toNat = ((s.pair p).toNat + 65535) % 65536 := by
  rw [decPair, State.pair_setPair, Nat.add_comm]
  exact BitVec.toNat_sub (s.pair p) 1

end Sys2Proof.Machine

namespace Sys2Proof.Proofs

open Sys2Proof.Machine

/-- Settles O24: `add16` leaves the sum and its carries, and its flag write keeps Z. -/
theorem addHlGivesTheSumAndKeepsZ : Obligations.AddHlGivesTheSumAndKeepsZ :=
  ⟨encode_addHLRow, fun p s => ⟨_, exec_addHLRow p s, rfl, addHL_hl_toNat p s,
    flagsAre_of_setNHC (add16_flags s.hl (s.pair p) s.f)⟩⟩

/-- Settles O25: the pair read back is the word written to it, and that write touches the pair's registers alone. -/
theorem incAndDecOfAPairWriteNoFlag : Obligations.IncAndDecOfAPairWriteNoFlag := by
  refine ⟨fun p => ⟨encode_incPairRow p, encode_decPairRow p⟩, fun p s => ⟨_, _, exec_incPairRow p s, exec_decPairRow p s,
    incPair_pair_toNat p s, decPair_pair_toNat p s, ?_⟩⟩
  cases p with
  | BC | DE | HL | SP => exact ⟨rfl, rfl⟩

/-- Settles O26: both instructions write `addsp`'s word and flags, one to SP and one to HL. -/
theorem spPlusOffsetGoesToSpOrHl : Obligations.SpPlusOffsetGoesToSpOrHl :=
  ⟨fun _ => ⟨rfl, rfl⟩, fun n s => ⟨_, _, exec_eq_run (.add_SP_e8 n) s, exec_eq_run (.ld_HL_SPe8 n) s, rfl, rfl,
    addsp_toNat s.sp n s.f, loadHLFromSP_hl n s, rfl, flagsAre_of_setFlags (addsp_flags s.sp n s.f)⟩⟩

end Sys2Proof.Proofs
end

section
/-! Proofs of the statements about rotates, shifts and bit operations (42_rotate_shift_bit.md R280 to R309): each
writes A and F, replaces its operand in its place, or only tests it. -/

namespace Sys2Proof

/-! ## Encodings -/

/-- The second byte of a CB instruction with the fields x and y and the operand `o` (30_encoding.md R121, R126). -/
def cbByte (x : Fin 4) (y : Fin 8) (o : Operand8) : Byte :=
  0x40 * BitVec.ofNat 8 x.val + 8 * BitVec.ofNat 8 y.val + operandCode o

theorem cbByte_fields (x : Fin 4) (y : Fin 8) (o : Operand8) :
    xField (cbByte x y o) = x ∧ yField (cbByte x y o) = y ∧ operandOf (zField (cbByte x y o)) = o := by
  cases o with
  | reg r => cases r <;> revert x y <;> decide
  | mHL => revert x y; decide

theorem decodeCb_cbByte_rot (y : Fin 8) (o : Operand8) : decodeCb (cbByte 0 y o) = rotRow (rotOf y) o := by
  simp only [decodeCb, cbByte_fields]

theorem decodeCb_cbByte_bit (b : Fin 8) (o : Operand8) : decodeCb (cbByte 1 b o) = bitRow b o := by
  simp only [decodeCb, cbByte_fields]

theorem decodeCb_cbByte_res (b : Fin 8) (o : Operand8) : decodeCb (cbByte 2 b o) = resRow b o := by
  simp only [decodeCb, cbByte_fields]

theorem decodeCb_cbByte_set (b : Fin 8) (o : Operand8) : decodeCb (cbByte 3 b o) = setRow b o := by
  simp only [decodeCb, cbByte_fields]

theorem encode_of_decodeCb {op2 : Byte} {i : Instr} (h : decodeCb op2 = i) : encode i = [0xCB, op2] :=
  h ▸ (encode_row_cb op2).1

theorem encode_rotRow (op : RotOp) (o : Operand8) : encode (rotRow op o) = [0xCB, 8 * rotCode op + operandCode o] := by
  cases op with
  | rlc => exact encode_of_decodeCb (decodeCb_cbByte_rot 0 o)
  | rrc => exact encode_of_decodeCb (decodeCb_cbByte_rot 1 o)
  | rl => exact encode_of_decodeCb (decodeCb_cbByte_rot 2 o)
  | rr => exact encode_of_decodeCb (decodeCb_cbByte_rot 3 o)
  | sla => exact encode_of_decodeCb (decodeCb_cbByte_rot 4 o)
  | sra => exact encode_of_decodeCb (decodeCb_cbByte_rot 5 o)
  | swap => exact encode_of_decodeCb (decodeCb_cbByte_rot 6 o)
  | srl => exact encode_of_decodeCb (decodeCb_cbByte_rot 7 o)

end Sys2Proof

namespace Sys2Proof.Machine

open Sys2Proof.Statement

/-! ## Rotates and shifts -/

/-- The bit-level rotates and shifts compute the arithmetic of R280. -/
theorem rotate_eq_rotated (op : RotOp) (v : Byte) (cin : Bool) :
    (rotate op v cin).1.toNat = rotated op v.toNat cin ∧ (rotate op v cin).2 = rotatedOut op v.toNat := by
  cases op with
  | rlc => exact rotate_rlc v cin
  | rrc => exact rotate_rrc v cin
  | rl => exact rotate_rl v cin
  | rr => exact rotate_rr v cin
  | sla => exact rotate_sla v cin
  | sra => exact rotate_sra v cin
  | swap => exact rotate_swap v cin
  | srl => exact rotate_srl v cin

theorem exec_rotRow_eq (op : RotOp) (o : Operand8) (s : State) :
    exec (rotRow op o) s = .next (replaceOperand o (rotate op (operandValue o s) (flagC s.f)).1
      (cbflags (rotate op (operandValue o s) (flagC s.f)).1 (rotate op (operandValue o s) (flagC s.f)).2 s.f) s) := by
  rw [exec_rotRow, rotateOperand_eq, replaceOperand]

theorem rotateOutcome (op : RotOp) (o : Operand8) (s : State) : RotateOutcome op o s := by
  obtain ⟨hres, hout⟩ := rotate_eq_rotated op (operandValue o s) (flagC s.f)
  refine ⟨_, exec_rotRow_eq op o s, _, hres, replaceOperand_writesOnly o _ _ s, replaceOperand_sameControl o _ _ s,
    replaceOperand_bus o _ _ s, flagsAre_of_setFlags ?_⟩
  rw [replaceOperand_f, cbflags_eq, hout]

/-! ## Testing, clearing and setting one bit -/

theorem exec_resRow_eq (b : Fin 8) (o : Operand8) (s : State) :
    exec (resRow b o) s = .next (replaceOperand o (putBit b.val false (operandValue o s)) s.f s) := by
  rw [exec_resRow, resOperand_eq]
  rfl

theorem exec_setRow_eq (b : Fin 8) (o : Operand8) (s : State) :
    exec (setRow b o) s = .next (replaceOperand o (putBit b.val true (operandValue o s)) s.f s) := by
  rw [exec_setRow, setOperand_eq]
  rfl

theorem flagsAre_of_bitFlags {v : Byte} {b : Nat} {s t : State} (hf : t.f = bitFlags (v.getLsbD b) s.f) :
    FlagsAre (decide (v.toNat / 2 ^ b % 2 = 0)) false true (flagC s.f) s t := by
  rw [bitFlags_eq, not_getLsbD] at hf
  exact flagsAre_of_setZNH hf

end Sys2Proof.Machine

namespace Sys2Proof.Proofs

open Sys2Proof.Machine

/-- Settles O27: each of the four runs `rotateA`, whose flag write clears Z. -/
theorem accumulatorRotatesClearZ : Obligations.AccumulatorRotatesClearZ := by
  refine ⟨rfl, rfl, rfl, rfl, fun s x hx => ?_⟩
  have hexec : exec x.1 s = .next (rotateA x.2 s) := by
    simp only [List.mem_cons, List.not_mem_nil, or_false] at hx
    rcases hx with rfl | rfl | rfl | rfl
    · exact exec_eq_run .rlca s
    · exact exec_eq_run .rrca s
    · exact exec_eq_run .rla s
    · exact exec_eq_run .rra s
  obtain ⟨hres, hout⟩ := rotate_eq_rotated x.2 s.a (flagC s.f)
  exact ⟨_, hexec, rfl, hres, hout ▸ flagsAre_of_setFlags (aflags_eq _ s.f)⟩

/-- Settles O28: the rotated value is put in the register's place. -/
theorem cbRotatesAndShiftsOfARegister : Obligations.CbRotatesAndShiftsOfARegister :=
  ⟨fun op r => encode_rotRow op (.reg r), fun op r s => rotateOutcome op (.reg r) s⟩

/-- Settles O29: the rotated value is put in the place of the byte at HL. -/
theorem cbRotatesAndShiftsOfTheByteAtHl : Obligations.CbRotatesAndShiftsOfTheByteAtHl :=
  ⟨fun op => encode_rotRow op .mHL, fun op s => rotateOutcome op .mHL s⟩

/-- Settles O30: BIT reads its operand and writes F alone. -/
theorem bitTestsOneBit : Obligations.BitTestsOneBit :=
  ⟨fun b o => encode_of_decodeCb (decodeCb_cbByte_bit b o), fun b o s =>
    ⟨_, (exec_bitRow b o s).trans (congrArg Host.Outcome.next (bitOperand_eq b o s)), rfl, flagsAre_of_bitFlags rfl⟩⟩

/-- Settles O31: both replace the operand by itself with bit b put to 0 or 1, and put F back as it was. -/
theorem resAndSetWriteOneBit : Obligations.ResAndSetWriteOneBit := by
  refine ⟨fun b o => ⟨encode_of_decodeCb (decodeCb_cbByte_res b o), encode_of_decodeCb (decodeCb_cbByte_set b o)⟩,
    fun b o s x hx => ?_⟩
  have hexec : exec x.1 s = .next (replaceOperand o (putBit b.val x.2 (operandValue o s)) s.f s) := by
    simp only [List.mem_cons, List.not_mem_nil, or_false] at hx
    rcases hx with rfl | rfl
    · exact exec_resRow_eq b o s
    · exact exec_setRow_eq b o s
  exact ⟨_, hexec, _, fun k _ => putBit_getLsbD b.val k x.2 _ b.isLt, replaceOperand_writesOnly o _ _ s,
    replaceOperand_sameControl o _ _ s, replaceOperand_f o _ _ s, replaceOperand_bus o _ _ s⟩

end Sys2Proof.Proofs
end

section
/-! Proofs of the statements about loads and stores: LD with an operand as its destination (43_loads_stack.md R330 to
R334), as one write of that operand. -/

namespace Sys2Proof

/-! ## Encodings -/

theorem encode_ldRow {dst src : Operand8} (h : ¬(dst = .mHL ∧ src = .mHL)) :
    encode (ldRow dst src) = [0x40 + 8 * operandCode dst + operandCode src] := by
  cases dst with
  | reg q =>
    cases src with
    | reg r => cases q <;> cases r <;> rfl
    | mHL => cases q <;> rfl
  | mHL =>
    cases src with
    | reg r => cases r <;> rfl
    | mHL => exact absurd ⟨rfl, rfl⟩ h

theorem encode_ldImmRow (o : Operand8) (d : Byte) : encode (ldImmRow o d) = [0x06 + 8 * operandCode o, d] := by
  cases o with
  | reg r => cases r <;> rfl
  | mHL => rfl

end Sys2Proof

namespace Sys2Proof.Machine

open Sys2Proof.Statement

/-! ## The write of an operand, when the port's record holds `txns` before it -/

section
variable (o : Operand8) (v : Byte) (txns : List BusTxn) (s : State)

theorem writeOperand_writesOnly : WritesOnly o v s (writeOperand o v { s with bus := txns }) := by
  cases o with
  | reg r => exact ⟨State.reg_setReg_same r v _, fun q hq => State.reg_setReg_ne r q v _ hq, writeOperand_reg_readByte r v _⟩
  | mHL =>
    exact ⟨fun q => writeOperand_mHL_reg q v _, State.readByte_store8_same s.hl v _,
      fun x hx => State.readByte_store8_ne s.hl x v _ hx⟩

theorem writeOperand_sameControl : SameControl s (writeOperand o v { s with bus := txns }) := by simp [SameControl]

theorem writeOperand_txns : (writeOperand o v { s with bus := txns }).bus = txns ++ operandWrites o v s := by
  cases o <;> exact writeOperand_bus _ v { s with bus := txns }

/-- All that such a write leaves: the operand, the frame, the flags and the port's record. -/
theorem writeOperand_outcome :
    WritesOnly o v s (writeOperand o v { s with bus := txns }) ∧ SameControl s (writeOperand o v { s with bus := txns }) ∧
      (writeOperand o v { s with bus := txns }).f = s.f ∧
      (writeOperand o v { s with bus := txns }).bus = txns ++ operandWrites o v s :=
  ⟨writeOperand_writesOnly o v txns s, writeOperand_sameControl o v txns s, writeOperand_f o v _, writeOperand_txns o v txns s⟩

end

theorem exec_ldRow_eq {dst src : Operand8} (h : ¬(dst = .mHL ∧ src = .mHL)) (s : State) :
    exec (ldRow dst src) s = .next (writeOperand dst (operandValue src s) { s with bus := s.bus ++ operandReads src s }) := by
  rw [exec_ldRow dst src s h, moveOperand_eq]

end Sys2Proof.Machine

namespace Sys2Proof.Proofs

open Sys2Proof.Machine

/-- Settles O32: the source's value is written to the destination, after its reads. -/
theorem ldCopiesTheSource : Obligations.LdCopiesTheSource :=
  fun dst src h => ⟨encode_ldRow h, fun s => ⟨_, exec_ldRow_eq h s, writeOperand_outcome dst (operandValue src s) _ s⟩⟩

/-- Settles O33: the immediate is written to the destination, with no read before it. -/
theorem ldImmediateWritesTheByte : Obligations.LdImmediateWritesTheByte :=
  fun o d => ⟨encode_ldImmRow o d, fun s => ⟨_, exec_ldImmRow o d s, writeOperand_outcome o d s.bus s⟩⟩

end Sys2Proof.Proofs
end

section
/-! Proofs of the statements about loads and stores: A through a pointer, an address or the page 0xFF00
(43_loads_stack.md R335 to R348). -/

namespace Sys2Proof

/-- A word operand in an instruction's bytes, low byte first (30_encoding.md R124). -/
theorem wordBytes_eq (w : Word) : wordBytes w = [BitVec.ofNat 8 w.toNat, BitVec.ofNat 8 (w.toNat / 256)] := by
  rw [ofNat8_toNat, ofNat8_toNat_div]
  rfl

end Sys2Proof

namespace Sys2Proof.Machine

open Sys2Proof.Statement

/-! ## The post-modification of HL -/

/-- What a pointer adds to HL after the access, modulo 65536. -/
def pointerStep : Pointer → Nat
  | .BC | .DE => 0
  | .HLI => 1
  | .HLD => 65535

theorem pointerAfter_hl_toNat (p : Pointer) (s : State) : (pointerAfter p s).hl.toNat = (s.hl.toNat + pointerStep p) % 65536 := by
  rw [pointerAfter_hl]
  cases p with
  | BC | DE => exact (Nat.mod_eq_of_lt s.hl.isLt).symm
  | HLI => exact BitVec.toNat_add s.hl 1
  | HLD => exact (BitVec.toNat_sub s.hl 1).trans (congrArg (· % 65536) (Nat.add_comm 65535 s.hl.toNat))

theorem loadAPointer_hl_toNat (p : Pointer) (s : State) :
    (loadAPointer p s).hl.toNat = (s.hl.toNat + pointerStep p) % 65536 := pointerAfter_hl_toNat p _

theorem storeAPointer_hl_toNat (p : Pointer) (s : State) :
    (storeAPointer p s).hl.toNat = (s.hl.toNat + pointerStep p) % 65536 := pointerAfter_hl_toNat p _

/-! ## The byte stored -/

theorem storeA_storesByte (x : Word) (s : State) : StoresByte x s.a s (storeA x s) := storesByte_store8 x s.a s

/-- The post-modification of the pointer leaves the stored byte in its place. -/
theorem storeAPointer_storesByte (p : Pointer) (s : State) : StoresByte (pointerAddr p s) s.a s (storeAPointer p s) := by
  have hread : ∀ x, (storeAPointer p s).readByte x = (storeA (pointerAddr p s) s).readByte x :=
    fun x => State.readByte_eq_of_mem_eq _ _ x (pointerAfter_mem p _)
  obtain ⟨hat, helse⟩ := storeA_storesByte (pointerAddr p s) s
  exact ⟨(hread _).trans hat, fun y hy => (hread y).trans (helse y hy)⟩

end Sys2Proof.Machine

namespace Sys2Proof.Proofs

open Sys2Proof.Machine

/-- Settles O34: each is a load of A from its address; (HL+) and (HL-) then step HL. -/
theorem loadsOfAReadTheirAddress : Obligations.LoadsOfAReadTheirAddress := by
  refine ⟨rfl, rfl, rfl, rfl, rfl, fun _ => rfl, fun w => congrArg (0xFA :: ·) (wordBytes_eq w), fun s w n => ⟨?_, ?_⟩⟩
  · simp only [List.forall_mem_cons, ← highPage_eq]
    exact ⟨exec_eq_run .ld_A_mBC s, exec_eq_run .ld_A_mDE s, exec_eq_run (.ld_A_ma16 w) s, exec_eq_run .ldh_A_mC s,
      exec_eq_run (.ldh_A_ma8 n) s, List.forall_mem_nil _⟩
  · simp only [List.forall_mem_cons]
    exact ⟨⟨_, exec_eq_run .ld_A_mHLI s, rfl, loadAPointer_hl_toNat .HLI s⟩,
      ⟨_, exec_eq_run .ld_A_mHLD s, rfl, loadAPointer_hl_toNat .HLD s⟩, List.forall_mem_nil _⟩

/-- Settles O35: each is a store of A at its address; (HL+) and (HL-) then step HL. -/
theorem storesOfAWriteTheirAddress : Obligations.StoresOfAWriteTheirAddress := by
  refine ⟨rfl, rfl, rfl, rfl, rfl, fun _ => rfl, fun w => congrArg (0xEA :: ·) (wordBytes_eq w), fun s w n => ⟨?_, ?_⟩⟩
  · simp only [List.forall_mem_cons, ← highPage_eq]
    exact ⟨⟨_, exec_eq_run .ld_mBC_A s, rfl, storeAPointer_storesByte .BC s⟩,
      ⟨_, exec_eq_run .ld_mDE_A s, rfl, storeAPointer_storesByte .DE s⟩,
      ⟨_, exec_eq_run (.ld_ma16_A w) s, rfl, storeA_storesByte w s⟩,
      ⟨_, exec_eq_run .ldh_mC_A s, rfl, storeA_storesByte (highPage s.c) s⟩,
      ⟨_, exec_eq_run (.ldh_ma8_A n) s, rfl, storeA_storesByte (highPage n) s⟩, List.forall_mem_nil _⟩
  · simp only [List.forall_mem_cons]
    exact ⟨⟨_, exec_eq_run .ld_mHLI_A s, rfl, storeAPointer_hl_toNat .HLI s, storeAPointer_storesByte .HLI s⟩,
      ⟨_, exec_eq_run .ld_mHLD_A s, rfl, storeAPointer_hl_toNat .HLD s, storeAPointer_storesByte .HLD s⟩,
      List.forall_mem_nil _⟩

end Sys2Proof.Proofs
end

section
/-! Proofs of the statements about loads and stores: the 16-bit loads (43_loads_stack.md R349 to R351), PUSH and POP
(R352 to R355). -/

namespace Sys2Proof

/-! ## Encodings -/

theorem encode_ldPairRow (p : Pair) (w : Word) :
    encode (ldPairRow p w) = [0x01 + 0x10 * pairCode p, BitVec.ofNat 8 w.toNat, BitVec.ofNat 8 (w.toNat / 256)] := by
  rw [← wordBytes_eq]
  cases p <;> rfl

theorem encode_pushRow (p : StackPair) : encode (pushRow p) = [0xC5 + 0x10 * stackPairCode p] := by cases p <;> rfl

theorem encode_popRow (p : StackPair) : encode (popRow p) = [0xC1 + 0x10 * stackPairCode p] := by cases p <;> rfl

end Sys2Proof

namespace Sys2Proof.Machine

open Sys2Proof.Statement

/-! ## A word stored, in memory or on the stack -/

theorem wordWrites_eq (x v : Word) : wordWrites x v = [.write .data x (lo8 v), .write .data (x + 1) (hi8 v)] := by
  rw [wordWrites, ofNat8_toNat, ofNat8_toNat_div]

theorem store16_frame (x v : Word) (s : State) :
    s.store16 x v = { s with mem := (s.store16 x v).mem, bus := s.bus ++ wordWrites x v } := by
  rw [wordWrites_eq, ← State.store16_bus]
  rfl

theorem push16_frame (v : Word) (s : State) :
    push16 v s = { s with sp := (push16 v s).sp, mem := (push16 v s).mem, bus := s.bus ++ wordWrites (push16 v s).sp v } :=
  store16_frame (s.sp - 2) v { s with sp := s.sp - 2 }

theorem push16_sp_toNat (v : Word) (s : State) : (push16 v s).sp.toNat = (s.sp.toNat + 65534) % 65536 :=
  (BitVec.toNat_sub s.sp 2).trans (congrArg (· % 65536) (Nat.add_comm 65534 s.sp.toNat))

theorem push16_storesWord (v : Word) (s : State) : StoresWord (push16 v s).sp v s (push16 v s) :=
  storesWord_store16 (s.sp - 2) v { s with sp := s.sp - 2 }

/-! ## A word read from the stack -/

theorem hi8_readWord (x : Word) (s : State) : hi8 (s.readWord x) = s.readByte (x + 1) := hi8_mkWord _ _

theorem lo8_readWord (x : Word) (s : State) : lo8 (s.readWord x) = s.readByte x := lo8_mkWord _ _

theorem pop16_snd_frame (s : State) : (pop16 s).2 = { s with sp := s.sp + 2, bus := s.bus ++ wordReads s.sp s } := by
  rw [wordReads, ← pop16_snd_bus]
  rfl

/-- POP writes its pair over the state that the stack read leaves. -/
theorem exec_popRow_eq (p : StackPair) (s : State) :
    exec (popRow p) s =
      .next (State.setStackPair p (s.readWord s.sp) { s with sp := s.sp + 2, bus := s.bus ++ wordReads s.sp s }) := by
  rw [exec_popRow, popPair, pop16_fst, pop16_snd_frame]

/-! ## PUSH, then POP -/

theorem popPair_pushPair_sp (p q : StackPair) (s : State) : (popPair q (pushPair p s)).sp = s.sp :=
  (State.setStackPair_sp q _ _).trans (pop16_push16 (s.stackPair p) s).2

theorem popPair_pushPair_stackPair {q : StackPair} (hq : q ≠ .AF) (p : StackPair) (s : State) :
    (popPair q (pushPair p s)).stackPair q = s.stackPair p :=
  (State.stackPair_setStackPair q _ _ hq).trans (pop16_push16 (s.stackPair p) s).1

theorem popPair_pushPair_af (p : StackPair) (s : State) : (popPair .AF (pushPair p s)).af = s.stackPair p &&& 0xFFF0#16 :=
  (State.af_setAF _ _).trans (congrArg (· &&& 0xFFF0#16) (pop16_push16 (s.stackPair p) s).1)

end Sys2Proof.Machine

namespace Sys2Proof.Proofs

open Sys2Proof.Machine Sys2Proof.Statement

/-- Settles O36: the pair takes the word's two halves, memory its two bytes, and SP the whole word. -/
theorem sixteenBitLoads : Obligations.SixteenBitLoads := by
  refine ⟨encode_ldPairRow, fun w => congrArg (0x08 :: ·) (wordBytes_eq w), rfl, fun s w => ?_, fun s w => ?_,
    exec_eq_run .ld_SP_HL⟩
  · rw [ofNat8_toNat, ofNat8_toNat_div]
    exact ⟨exec_ldPairRow .BC w s, exec_ldPairRow .DE w s, exec_ldPairRow .HL w s, exec_ldPairRow .SP w s⟩
  · exact ⟨_, exec_eq_run (.ld_ma16_SP w) s, store16_frame w s.sp s, storesWord_store16 w s.sp s⟩

/-- Settles O37: PUSH is `push16` of the pair. -/
theorem pushStoresThePairBelowSp : Obligations.PushStoresThePairBelowSp :=
  ⟨encode_pushRow, fun p s => ⟨_, exec_pushRow p s, push16_frame (s.stackPair p) s, push16_sp_toNat (s.stackPair p) s,
    push16_storesWord (s.stackPair p) s⟩⟩

/-- Settles O38: the halves of the word at SP are its two bytes, and AF's write masks the low one. -/
theorem popLoadsThePairAndAfDropsTheLowNibble : Obligations.PopLoadsThePairAndAfDropsTheLowNibble := by
  refine ⟨encode_popRow, fun s => ?_⟩
  rw [← hi8_readWord, ← lo8_readWord]
  exact ⟨exec_popRow_eq .BC s, exec_popRow_eq .DE s, exec_popRow_eq .HL s, _, exec_popRow_eq .AF s, rfl, and_F0_toNat _⟩

/-- Settles O39: Pop16 takes back what Push16 left, whichever pairs they serve. -/
theorem popAfterPushReturnsTheWord : Obligations.PopAfterPushReturnsTheWord := by
  refine ⟨pop16_push16, fun p q s => ⟨_, _, exec_pushRow p s, exec_popRow q _, popPair_pushPair_sp p q s,
    fun hq => popPair_pushPair_stackPair hq p s, ?_⟩⟩
  rintro rfl
  exact popPair_pushPair_af p s

end Sys2Proof.Proofs
end

section
/-! Proofs of the statements about control transfer (44_control.md R380 to R391): JP, JR, CALL, RST, RET and RETI. -/

namespace Sys2Proof

/-! ## Encodings -/

theorem encode_jpRow (c : Cond) (w : Word) :
    encode (jpRow c w) = [0xC2 + 8 * condCode c, BitVec.ofNat 8 w.toNat, BitVec.ofNat 8 (w.toNat / 256)] := by
  rw [← wordBytes_eq]
  cases c <;> rfl

theorem encode_callRow (c : Cond) (w : Word) :
    encode (callRow c w) = [0xC4 + 8 * condCode c, BitVec.ofNat 8 w.toNat, BitVec.ofNat 8 (w.toNat / 256)] := by
  rw [← wordBytes_eq]
  cases c <;> rfl

theorem encode_jrRow (c : Cond) (n : Byte) : encode (jrRow c n) = [0x20 + 8 * condCode c, n] := by cases c <;> rfl

theorem encode_retRow (c : Cond) : encode (retRow c) = [0xC0 + 8 * condCode c] := by cases c <;> rfl

theorem encode_rstRow (y : Fin 8) : encode (rstRow y) = [0xC7 + 8 * BitVec.ofNat 8 y.val] := by
  match y with
  | 0 | 1 | 2 | 3 | 4 | 5 | 6 | 7 => rfl

end Sys2Proof

namespace Sys2Proof.Machine

open Sys2Proof.Statement

/-! ## The taken call: PC pushed, then replaced -/

section
variable (w : Word) (s : State)

theorem call_true_frame :
    call true w s =
      { s with
        sp := (call true w s).sp, pc := w, mem := (call true w s).mem,
        bus := s.bus ++ wordWrites (call true w s).sp s.pc } :=
  congrArg (fun t : State => { t with pc := w }) (push16_frame s.pc s)

theorem call_true_sp_toNat : (call true w s).sp.toNat = (s.sp.toNat + 65534) % 65536 := push16_sp_toNat s.pc s

theorem call_true_storesWord : StoresWord (call true w s).sp s.pc s (call true w s) := push16_storesWord s.pc s

end

theorem rstTarget_toNat (y : Fin 8) : (BitVec.ofNat 16 (8 * y.val)).toNat = 8 * y.val := Nat.mod_eq_of_lt (by omega)

/-! ## The taken return: PC popped -/

theorem ret_true_frame (s : State) :
    ret true s = { s with pc := (ret true s).pc, sp := s.sp + 2, bus := s.bus ++ wordReads s.sp s } :=
  congrArg (fun t : State => { t with pc := s.readWord s.sp }) (pop16_snd_frame s)

theorem ret_true_pc_toNat (s : State) :
    (ret true s).pc.toNat = (s.readByte s.sp).toNat + 256 * (s.readByte (s.sp + 1)).toNat := readWord_toNat s s.sp

end Sys2Proof.Machine

namespace Sys2Proof.Proofs

open Sys2Proof.Machine

/-- Settles O41: each is a jump to its target, and a jump not taken is the state itself. -/
theorem jumpsWritePcWhenTaken : Obligations.JumpsWritePcWhenTaken := by
  refine ⟨fun w => congrArg (0xC3 :: ·) (wordBytes_eq w), encode_jpRow, fun _ => rfl, encode_jrRow, rfl, fun s w n => ?_⟩
  exact ⟨exec_eq_run (.jp_a16 w) s, exec_eq_run .jp_HL s,
    ⟨_, exec_eq_run (.jr_e8 n) s, jump_frame true (s.pc + sext16 n) s, add_sext16_toNat s.pc n, fun c => exec_jrRow c n s⟩,
    fun c => exec_jpRow c w s⟩

/-- Settles O43: CALL and RST are one taken call, which is `push16` of PC before PC is written. -/
theorem callsPushTheReturnAddress : Obligations.CallsPushTheReturnAddress := by
  refine ⟨fun w => congrArg (0xCD :: ·) (wordBytes_eq w), encode_callRow, encode_rstRow, fun s w => ?_, fun s y => ?_⟩
  · exact ⟨_, exec_eq_run (.call_a16 w) s, call_true_frame w s, call_true_sp_toNat w s, call_true_storesWord w s,
      fun c => exec_callRow c w s⟩
  · exact ⟨_, exec_rstRow y s, call_true_frame _ s, rstTarget_toNat y, call_true_sp_toNat _ s, call_true_storesWord _ s⟩

/-- Settles O44: RET is the taken return, and RETI sets IME over it. -/
theorem returnsPopPc : Obligations.ReturnsPopPc :=
  ⟨rfl, rfl, encode_retRow, fun s => ⟨_, exec_eq_run .ret s, ret_true_frame s, ret_true_pc_toNat s, fun c => exec_retRow c s,
    exec_eq_run .reti s⟩⟩

end Sys2Proof.Proofs
end

section
/-! Proofs of the statements about the system instructions (45_system.md R410 to R420): the advances, the interrupt
enable, the 0xCB row and the unassigned opcodes. -/

namespace Sys2Proof

/-- 0xCB and a second byte decode to the CB-table entry of that byte (30_encoding.md R122, R136). -/
theorem decode_cb (op2 : Byte) (rest : List Byte) : decode (0xCB :: op2 :: rest) = .ok (decodeCb op2, rest) := by
  obtain ⟨henc, hwf⟩ := encode_row_cb op2
  simpa [henc] using decode_encode hwf rest

end Sys2Proof

namespace Sys2Proof.Machine

open Sys2Proof.Statement

/-- `prefix_CB` means what the CB-table entry means that its two bytes decode to (45_system.md R415). -/
theorem exec_prefix_CB (op2 : Byte) (s : State) : exec (.prefix_CB op2) s = exec (decodeCb op2) s := by
  have hform : formOf (.prefix_CB op2) = formOf (decodeCb op2) := (formOf_decodeCb op2).symm
  rw [exec_eq_run, exec_eq_run, hform]

/-- `prefix_CB` and the CB-table entry have the same bytes, so the fetch leaves the same state. -/
theorem fetched_prefix_CB (op2 : Byte) (s : State) : fetched (.prefix_CB op2) s = fetched (decodeCb op2) s := by
  have henc : encode (.prefix_CB op2) = encode (decodeCb op2) := (encode_row_cb op2).1.symm
  rw [fetched, fetched, henc]

/-- What runs when 0xCB stands at PC is the CB-table entry of the byte after it. -/
theorem runs_decodeCb {s : State} (hl : s.locked = false) (ha : acceptedLine s = none) (hcb : s.readByte s.pc = 0xCB) :
    Runs (decodeCb (s.readByte (s.pc + 1))) s := by
  refine ⟨hl, ha, [s.readByte (s.pc + 1 + 1)], ?_⟩
  rw [bytesAt, hcb]
  exact decode_cb _ _

end Sys2Proof.Machine

namespace Sys2Proof.Proofs

open Sys2Proof.Machine

/-- Settles O47: the instruction that runs is the CB-table entry, which shares its form and its bytes with `prefix_CB`. -/
theorem prefixCbExecutesTheCbTableEntry : Obligations.PrefixCbExecutesTheCbTableEntry := by
  refine ⟨decode_encode (i := .set_1_E) rfl [], fun op2 s => ?_, fun s hl ha hcb => ?_⟩
  · obtain ⟨henc, hwf⟩ := encode_row_cb op2
    have hx : exec (decodeCb op2) s = .next ((formOf (decodeCb op2)).run s) := exec_eq_run _ s
    exact ⟨decodeCb op2, _, decode_cb op2 [], hwf, henc, (exec_prefix_CB op2 s).trans hx, hx⟩
  · rw [step_eq_exec_fetched (runs_decodeCb hl ha hcb), exec_prefix_CB, fetched_prefix_CB]
    exact ⟨_, exec_eq_run _ _, exec_eq_run _ _⟩

/-- Settles O45: all three run the form that leaves the state as it is. -/
theorem nopHaltStopOnlyAdvance : Obligations.NopHaltStopOnlyAdvance :=
  ⟨rfl, rfl, fun _ => rfl, fun s ignored => ⟨exec_eq_run .nop s, exec_eq_run .halt s, exec_eq_run (.stop ignored) s⟩⟩

/-- Settles O46: each form writes IME and ei_pending alone. -/
theorem diAndEiWriteTheInterruptEnable : Obligations.DiAndEiWriteTheInterruptEnable :=
  ⟨rfl, rfl, fun s => ⟨exec_eq_run .di s, exec_eq_run .ei s⟩⟩

/-- Settles O48: an unassigned byte is the encoding of a well-formed ILLEGAL, whose form is `raiseIllegal`. -/
theorem unassignedOpcodesLockTheCore : Obligations.UnassignedOpcodesLockTheCore :=
  ⟨rfl, fun op hop => decode_encode (i := .illegal op) (List.contains_iff_mem.mpr hop) [],
    fun op s => exec_eq_run (.illegal op) s⟩

end Sys2Proof.Proofs
end

section
/-! Proofs of the statements about the step boundary (60_exceptions.md R500 to R511): which core completes its step,
the frame of the interrupt entry, and the samples of IRQ, which a masked step does not look at. -/

namespace Sys2Proof.Machine

open Sys2Proof.Statement

theorem exists_step_next {s : State} (hl : s.locked = false) : ∃ t, step s = .next t := by
  cases ha : acceptedLine s with
  | some n => exact ⟨_, step_interrupt s n hl ha⟩
  | none =>
    obtain ⟨i, hi⟩ := exists_runs s hl ha
    exact ⟨_, (step_eq_exec_fetched hi).trans (exec_eq_run i (fetched i s))⟩

theorem unlocked_of_step_next {s t : State} (h : step s = .next t) : s.locked = false := by
  cases hl : s.locked with
  | false => rfl
  | true => rw [step_locked s hl] at h; cases h

/-! ## Interrupt entry -/

/-- The entry is `push16` of PC with IME and ei_pending cleared before it, and PC and IRQ_ACK written after it. -/
theorem enterInterrupt_frame (n : Fin 5) (s : State) :
    enterInterrupt n s =
      { s with
        ime := false, eiPending := false, sp := s.sp - 2, pc := irqVector n, irqAck := some n,
        mem := (enterInterrupt n s).mem, bus := s.bus ++ wordWrites (s.sp - 2) s.pc } :=
  congrArg (fun t : State => { t with pc := irqVector n, irqAck := some n })
    (push16_frame s.pc { s with ime := false, eiPending := false })

theorem enterInterrupt_storesWord (n : Fin 5) (s : State) : StoresWord (s.sp - 2) s.pc s (enterInterrupt n s) :=
  push16_storesWord s.pc s

/-! ## Presenting other samples

What a step executes neither reads the samples of IRQ nor writes them, so each part of it commutes with
`presentIrq irq`. -/

section
variable (irq : List (BitVec 5)) (s : State)

theorem operandValue_presentIrq (o : Operand8) : operandValue o (presentIrq irq s) = operandValue o s := by
  cases o with
  | reg r => cases r <;> rfl
  | mHL => rfl

theorem operandReads_presentIrq (o : Operand8) : operandReads o (presentIrq irq s) = operandReads o s := by cases o <;> rfl

theorem writeOperand_presentIrq (o : Operand8) (v : Byte) :
    writeOperand o v (presentIrq irq s) = presentIrq irq (writeOperand o v s) := by
  cases o with
  | reg r => cases r <;> rfl
  | mHL => rfl

theorem replaceOperand_presentIrq (o : Operand8) (v g : Byte) :
    replaceOperand o v g (presentIrq irq s) = presentIrq irq (replaceOperand o v g s) := by
  rw [replaceOperand, operandReads_presentIrq]
  exact writeOperand_presentIrq irq { s with f := g, bus := s.bus ++ operandReads o s } o v

theorem moveOperand_presentIrq (dst src : Operand8) :
    moveOperand dst src (presentIrq irq s) = presentIrq irq (moveOperand dst src s) := by
  rw [moveOperand_eq, moveOperand_eq, operandValue_presentIrq, operandReads_presentIrq]
  exact writeOperand_presentIrq irq { s with bus := s.bus ++ operandReads src s } dst (operandValue src s)

theorem taken_presentIrq (cc : Option Cond) : taken cc (presentIrq irq s) = taken cc s := by cases cc <;> rfl

theorem jump_presentIrq (t : Bool) (w : Word) : jump t w (presentIrq irq s) = presentIrq irq (jump t w s) := by cases t <;> rfl

theorem call_presentIrq (t : Bool) (w : Word) : call t w (presentIrq irq s) = presentIrq irq (call t w s) := by cases t <;> rfl

theorem ret_presentIrq (t : Bool) : ret t (presentIrq irq s) = presentIrq irq (ret t s) := by cases t <;> rfl

/-- The forms that read or write through an operand, a register pair or a condition are split on it; the others do
not name the samples at all. -/
theorem Form.run_presentIrq (i : Form) : i.run (presentIrq irq s) = presentIrq irq (i.run s) := by
  cases i
  case alu op o => rw [run, run, aluOperand_eq, aluOperand_eq, operandValue_presentIrq, operandReads_presentIrq]; rfl
  case bit b o => rw [run, run, bitOperand_eq, bitOperand_eq, operandValue_presentIrq, operandReads_presentIrq]; rfl
  case inc o | dec o | rotate op o | res b o | set b o =>
    simp only [run, incOperand_eq, decOperand_eq, rotateOperand_eq, resOperand_eq, setOperand_eq, operandValue_presentIrq]
    exact replaceOperand_presentIrq irq s o _ _
  case move dst src => exact moveOperand_presentIrq irq s dst src
  case immediate o v => exact writeOperand_presentIrq irq s o v
  case addHL p | incPair p | decPair p | loadPair p w | push p | pop p | loadAPointer p | storeAPointer p => cases p <;> rfl
  case jump cc w | jumpRelative cc n => rw [run, run, taken_presentIrq]; exact jump_presentIrq irq s _ _
  case call cc w => rw [run, run, taken_presentIrq]; exact call_presentIrq irq s _ w
  case ret cc => rw [run, run, taken_presentIrq]; exact ret_presentIrq irq s _
  all_goals rfl

theorem fetched_presentIrq (i : Instr) : fetched i (presentIrq irq s) = presentIrq irq.tail (fetched i s) := by
  rw [fetched, fetchReads_congr (presentIrq irq s) s rfl]
  rfl

end

/-! ## A masked step -/

theorem runs_presentIrq {i : Instr} {s : State} (hime : s.ime = false) (h : Runs i s) (irq : List (BitVec 5)) :
    Runs i (presentIrq irq s) := by
  obtain ⟨hl, -, rest, hdec⟩ := h
  exact ⟨hl, acceptedLine_masked _ hime, rest, bytesAt_congr (presentIrq irq s) s rfl s.pc 3 ▸ hdec⟩

/-- One state is the outcome of a masked step under every list of samples, but for the list (60_exceptions.md R504). -/
theorem exists_step_presentIrq {s : State} (hl : s.locked = false) (hime : s.ime = false) :
    ∃ u, ∀ irq, step (presentIrq irq s) = .next (presentIrq irq.tail u) := by
  obtain ⟨i, hi⟩ := exists_runs s hl (acceptedLine_masked s hime)
  refine ⟨(formOf i).run (fetched i s), fun irq => ?_⟩
  rw [step_eq_exec_fetched (runs_presentIrq hime hi irq), exec_eq_run, fetched_presentIrq, Form.run_presentIrq]

end Sys2Proof.Machine

namespace Sys2Proof.Proofs

open Sys2Proof.Machine

/-- Settles O5: the line accepted is the lowest requested one, and its entry is `push16` of PC. -/
theorem interruptEntryPushesPcAndJumpsToTheVector : Obligations.InterruptEntryPushesPcAndJumpsToTheVector := by
  intro s n hl hime hn hbelow
  have ha : acceptedLine s = some n := (acceptedLine_of_ime hime).trans (lowestLine_eq s.irqSample n hn hbelow)
  exact ⟨enterInterrupt n (beginStep s), step_interrupt s n hl ha, enterInterrupt_frame n (beginStep s), irqVector_toNat n,
    enterInterrupt_storesWord n (beginStep s)⟩

/-- Settles O6: a masked step accepts no line, and the instruction it executes commutes with presenting other samples. -/
theorem maskedRequestsHaveNoEffect : Obligations.MaskedRequestsHaveNoEffect := by
  intro s t irq irq' hime h
  obtain ⟨u, hu⟩ := exists_step_presentIrq (unlocked_of_step_next h) hime
  obtain rfl : presentIrq irq.tail u = t := Host.Outcome.next.inj ((hu irq).symm.trans h)
  exact hu irq'

/-- Settles O8: a running core enters an interrupt or executes the instruction at PC, and both complete. -/
theorem onlyALockedCoreStops : Obligations.OnlyALockedCoreStops := fun s => ⟨exists_step_next, step_locked s⟩

/-- Settles O4: the fetch from the state at the boundary leaves `fetched i s`. -/
theorem stepRunsTheDecodedInstruction : Obligations.StepRunsTheDecodedInstruction := fun _ _ => step_eq_exec_fetched

end Sys2Proof.Proofs
end
